-- ==== Sys2Proof/Word.lean ====
section
/-! DEFINITION. The word types of the block (00_scope.md R9, 30_encoding.md R81 and R84). -/

namespace Sys2Proof

/-- One byte of VRAM. -/
abbrev Byte := BitVec 8

/-- A u32: a register value, a pixel, a command argument, a header word (00_scope.md R9). -/
abbrev Word := BitVec 32

/-- The 64-bit DATA operand of a read's result or a write (30_encoding.md R84). -/
abbrev Data := BitVec 64

/-- A register-space offset, 0x000..0xFFF (30_encoding.md R81, field OFF). -/
abbrev Off := BitVec 12

end Sys2Proof
end

