-- ==== Sys2Proof/Syntax.lean ====
section
/-! DEFINITION. The operations of the block: one constructor per row of spec/opcode_table.json
(30_encoding.md R80, R84, R86, R87). -/

namespace Sys2Proof

/-- The access sizes of the register and VRAM ports: 1, 2, 4 or 8 bytes (30_encoding.md R83). -/
inductive AccessSize where
  | s1 | s2 | s4 | s8
  deriving DecidableEq, Repr

/-- The four ports (00_scope.md R4, 30_encoding.md R81). -/
inductive Port where
  | register | vram | command | render
  deriving DecidableEq, Repr

/-- The three agents (00_scope.md R4). -/
inductive Agent where
  | guest | driver | display
  deriving DecidableEq, Repr

/-- An operation with its operands (30_encoding.md R84). Boolean arguments are kept as the u32 given. -/
inductive Instr where
  -- the register port: 21 registers, read and write (10_state.md R21)
  | rdDeviceId (sz : AccessSize)
  | wrDeviceId (sz : AccessSize) (data : Data)
  | rdStatus (sz : AccessSize)
  | wrStatus (sz : AccessSize) (data : Data)
  | rdControl (sz : AccessSize)
  | wrControl (sz : AccessSize) (data : Data)
  | rdFbAddr (sz : AccessSize)
  | wrFbAddr (sz : AccessSize) (data : Data)
  | rdFbWidth (sz : AccessSize)
  | wrFbWidth (sz : AccessSize) (data : Data)
  | rdFbHeight (sz : AccessSize)
  | wrFbHeight (sz : AccessSize) (data : Data)
  | rdFbBpp (sz : AccessSize)
  | wrFbBpp (sz : AccessSize) (data : Data)
  | rdFbEnable (sz : AccessSize)
  | wrFbEnable (sz : AccessSize) (data : Data)
  | rdFbPitch (sz : AccessSize)
  | wrFbPitch (sz : AccessSize) (data : Data)
  | rdCursorX (sz : AccessSize)
  | wrCursorX (sz : AccessSize) (data : Data)
  | rdCursorY (sz : AccessSize)
  | wrCursorY (sz : AccessSize) (data : Data)
  | rdCursorEnable (sz : AccessSize)
  | wrCursorEnable (sz : AccessSize) (data : Data)
  | rdCursorHotspotX (sz : AccessSize)
  | wrCursorHotspotX (sz : AccessSize) (data : Data)
  | rdCursorHotspotY (sz : AccessSize)
  | wrCursorHotspotY (sz : AccessSize) (data : Data)
  | rdCursorUpload (sz : AccessSize)
  | wrCursorUpload (sz : AccessSize) (data : Data)
  | rdFbCount (sz : AccessSize)
  | wrFbCount (sz : AccessSize) (data : Data)
  | rdFbCurrent (sz : AccessSize)
  | wrFbCurrent (sz : AccessSize) (data : Data)
  | rdFbNext (sz : AccessSize)
  | wrFbNext (sz : AccessSize) (data : Data)
  | rdPageFlip (sz : AccessSize)
  | wrPageFlip (sz : AccessSize) (data : Data)
  | rdFlipPending (sz : AccessSize)
  | wrFlipPending (sz : AccessSize) (data : Data)
  | rdVblankCount (sz : AccessSize)
  | wrVblankCount (sz : AccessSize) (data : Data)
  -- the register port at an offset that is not mapped (40_register_bank.md R105, R106)
  | rdUnmapped (sz : AccessSize) (off : Off)
  | wrUnmapped (sz : AccessSize) (off : Off) (data : Data)
  -- the VRAM port (44_guest_interface.md R272, R273)
  | vrd (sz : AccessSize) (addr : Word)
  | vwr (sz : AccessSize) (addr : Word) (data : Data)
  -- the command port (30_encoding.md R86)
  | setupSingle (w : Word) (h : Word) (bpp : Word)
  | setupMulti (count : Word) (w : Word) (h : Word) (bpp : Word)
  | requestFlip (index : Word) (wait : Word)
  | waitForFlip (budget : Word)
  | describe
  | getVramSize
  | enableDisplay (b : Word)
  | setPosition (x : Word) (y : Word)
  | setHotspot (x : Word) (y : Word)
  | setEnabled (b : Word)
  | uploadPixel (argb : Word)
  | uploadBulk (count : Word) (pixels : List Word)
  -- the render port (43_compositor.md R240)
  | render
  deriving DecidableEq, Repr

end Sys2Proof
end

