-- ==== Sys2Proof/WellFormed.lean ====
section
/-! DEFINITION. Which terms of Instr spell an operation that a header and its operands can spell. -/

namespace Sys2Proof

/-- The 21 mapped register offsets (10_state.md R21). -/
def mappedOffsets : List Nat :=
  [0x00, 0x04, 0x08, 0x0C, 0x10, 0x14, 0x18, 0x1C, 0x20, 0x24, 0x28,
   0x2C, 0x30, 0x34, 0x38, 0x3C, 0x40, 0x44, 0x48, 0x4C, 0x50]

/-- An operation some words spell: an unmapped access has an offset that is not mapped (30_encoding.md R87),
and the pixel list of UPLOAD_BULK has a length its u32 length word can hold (log entry 1). -/
def Instr.wf : Instr → Bool
  | .rdUnmapped _ off => !mappedOffsets.contains off.toNat
  | .wrUnmapped _ off _ => !mappedOffsets.contains off.toNat
  | .uploadBulk _ pixels => decide (pixels.length < 2 ^ 32)
  | .rdDeviceId _ | .wrDeviceId _ _ | .rdStatus _ | .wrStatus _ _ | .rdControl _ | .wrControl _ _ 
  | .rdFbAddr _ | .wrFbAddr _ _ | .rdFbWidth _ | .wrFbWidth _ _ | .rdFbHeight _ | .wrFbHeight _ _ 
  | .rdFbBpp _ | .wrFbBpp _ _ | .rdFbEnable _ | .wrFbEnable _ _ | .rdFbPitch _ | .wrFbPitch _ _ 
  | .rdCursorX _ | .wrCursorX _ _ | .rdCursorY _ | .wrCursorY _ _ | .rdCursorEnable _ | .wrCursorEnable _ _ 
  | .rdCursorHotspotX _ | .wrCursorHotspotX _ _ | .rdCursorHotspotY _ | .wrCursorHotspotY _ _ 
  | .rdCursorUpload _ | .wrCursorUpload _ _ | .rdFbCount _ | .wrFbCount _ _ | .rdFbCurrent _ 
  | .wrFbCurrent _ _ | .rdFbNext _ | .wrFbNext _ _ | .rdPageFlip _ | .wrPageFlip _ _ | .rdFlipPending _ 
  | .wrFlipPending _ _ | .rdVblankCount _ | .wrVblankCount _ _ | .vrd _ _ | .vwr _ _ _ | .setupSingle _ _ _ 
  | .setupMulti _ _ _ _ | .requestFlip _ _ | .waitForFlip _ | .describe | .getVramSize | .enableDisplay _ 
  | .setPosition _ _ | .setHotspot _ _ | .setEnabled _ | .uploadPixel _ | .render => true

end Sys2Proof
end

