-- ==== Sys2Proof/Decode.lean ====
section
/-! DEFINITION. The decoder, total on any list of words, and the encoder (30_encoding.md R80 to R89).
The unit of the stream is the 32-bit word; an operand of 64 bits is two words, the low one first, and the
pixel list of UPLOAD_BULK is preceded by a word with its length: DESIGN CHOICE, log entry 1. -/

namespace Sys2Proof

/-- Why words spell no operation. -/
inductive DecodeError where
  /-- There is no word at all. -/
  | empty
  /-- The header is invalid (30_encoding.md R88). -/
  | invalidHeader (h : Word)
  /-- The header is valid and fewer words follow than its operands need (log entry 14). -/
  | incomplete (h : Word)
  deriving DecidableEq, Repr

/-- What the decoder answers: an operation and the words after it, or why there is none. -/
inductive Decoded where
  | ok (i : Instr) (rest : List Word)
  | bad (e : DecodeError)
  deriving DecidableEq, Repr

/-! ## Header fields (30_encoding.md R81) -/

/-- PORT, bits 31:30. -/
def headerPort (h : Word) : Nat := h.toNat / 2 ^ 30

/-- W, bit 29. -/
def headerW (h : Word) : Nat := h.toNat / 2 ^ 29 % 2

/-- SZ, bits 28:27. -/
def headerSz (h : Word) : Nat := h.toNat / 2 ^ 27 % 4

/-- RSV, bits 26:12. -/
def headerRsv (h : Word) : Nat := h.toNat / 2 ^ 12 % 2 ^ 15

/-- OFF / CMD, bits 11:0. -/
def headerOff (h : Word) : Nat := h.toNat % 2 ^ 12

/-- The access size an SZ field spells, `1 << SZ` bytes (30_encoding.md R83). -/
def sizeOfSz (n : Nat) : AccessSize :=
  match n with
  | 0 => .s1
  | 1 => .s2
  | 2 => .s4
  | _ => .s8

/-- The SZ field that spells an access size. -/
def szOfSize : AccessSize → Nat
  | .s1 => 0
  | .s2 => 1
  | .s4 => 2
  | .s8 => 3

/-! ## Register rows: the offset alone selects the row (30_encoding.md R87, 40_register_bank.md R100) -/

/-- The register-port read at an offset. -/
def regRead (off : Off) (sz : AccessSize) : Instr :=
  match off.toNat with
  | 0x00 => .rdDeviceId sz
  | 0x04 => .rdStatus sz
  | 0x08 => .rdControl sz
  | 0x0C => .rdFbAddr sz
  | 0x10 => .rdFbWidth sz
  | 0x14 => .rdFbHeight sz
  | 0x18 => .rdFbBpp sz
  | 0x1C => .rdFbEnable sz
  | 0x20 => .rdFbPitch sz
  | 0x24 => .rdCursorX sz
  | 0x28 => .rdCursorY sz
  | 0x2C => .rdCursorEnable sz
  | 0x30 => .rdCursorHotspotX sz
  | 0x34 => .rdCursorHotspotY sz
  | 0x38 => .rdCursorUpload sz
  | 0x3C => .rdFbCount sz
  | 0x40 => .rdFbCurrent sz
  | 0x44 => .rdFbNext sz
  | 0x48 => .rdPageFlip sz
  | 0x4C => .rdFlipPending sz
  | 0x50 => .rdVblankCount sz
  | _ => .rdUnmapped sz off

/-- The register-port write at an offset. -/
def regWrite (off : Off) (sz : AccessSize) (data : Data) : Instr :=
  match off.toNat with
  | 0x00 => .wrDeviceId sz data
  | 0x04 => .wrStatus sz data
  | 0x08 => .wrControl sz data
  | 0x0C => .wrFbAddr sz data
  | 0x10 => .wrFbWidth sz data
  | 0x14 => .wrFbHeight sz data
  | 0x18 => .wrFbBpp sz data
  | 0x1C => .wrFbEnable sz data
  | 0x20 => .wrFbPitch sz data
  | 0x24 => .wrCursorX sz data
  | 0x28 => .wrCursorY sz data
  | 0x2C => .wrCursorEnable sz data
  | 0x30 => .wrCursorHotspotX sz data
  | 0x34 => .wrCursorHotspotY sz data
  | 0x38 => .wrCursorUpload sz data
  | 0x3C => .wrFbCount sz data
  | 0x40 => .wrFbCurrent sz data
  | 0x44 => .wrFbNext sz data
  | 0x48 => .wrPageFlip sz data
  | 0x4C => .wrFlipPending sz data
  | 0x50 => .wrVblankCount sz data
  | _ => .wrUnmapped sz off data

/-! ## Operands (30_encoding.md R84) -/

/-- A 64-bit operand: two words, the low one first. -/
def takeData : List Word → Option (Data × List Word)
  | lo :: hi :: ws => some (hi ++ lo, ws)
  | _ => none

/-- The two words of a 64-bit operand. -/
def dataWords (d : Data) : List Word :=
  [d.extractLsb' 0 32, d.extractLsb' 32 32]

/-! ## The decoder, port by port -/

/-- PORT 00: a register access. -/
def decodeRegister (h : Word) (ws : List Word) : Decoded :=
  let off : Off := BitVec.ofNat 12 (headerOff h)
  let sz := sizeOfSz (headerSz h)
  if headerW h = 0 then .ok (regRead off sz) ws
  else
    match takeData ws with
    | some (d, ws') => .ok (regWrite off sz d) ws'
    | none => .bad (.incomplete h)

/-- PORT 01: a VRAM access; OFF must be 0 (30_encoding.md R88). -/
def decodeVram (h : Word) (ws : List Word) : Decoded :=
  let sz := sizeOfSz (headerSz h)
  if headerOff h ≠ 0 then .bad (.invalidHeader h)
  else
    match ws with
    | [] => .bad (.incomplete h)
    | addr :: ws' =>
      if headerW h = 0 then .ok (.vrd sz addr) ws'
      else
        match takeData ws' with
        | some (d, ws'') => .ok (.vwr sz addr d) ws''
        | none => .bad (.incomplete h)

/-- PORT 10: a command by its number (30_encoding.md R86); W, SZ and bits 11:8 must be 0 (R88). -/
def decodeCommand (h : Word) (ws : List Word) : Decoded :=
  if headerW h ≠ 0 ∨ headerSz h ≠ 0 then .bad (.invalidHeader h)
  else
    match headerOff h, ws with
    | 0x01, w :: ht :: bpp :: r => .ok (.setupSingle w ht bpp) r
    | 0x02, count :: w :: ht :: bpp :: r => .ok (.setupMulti count w ht bpp) r
    | 0x03, index :: wait :: r => .ok (.requestFlip index wait) r
    | 0x04, budget :: r => .ok (.waitForFlip budget) r
    | 0x05, r => .ok .describe r
    | 0x06, r => .ok .getVramSize r
    | 0x07, b :: r => .ok (.enableDisplay b) r
    | 0x08, x :: y :: r => .ok (.setPosition x y) r
    | 0x09, x :: y :: r => .ok (.setHotspot x y) r
    | 0x0A, b :: r => .ok (.setEnabled b) r
    | 0x0B, argb :: r => .ok (.uploadPixel argb) r
    | 0x0C, count :: len :: r =>
      if len.toNat ≤ r.length then .ok (.uploadBulk count (r.take len.toNat)) (r.drop len.toNat)
      else .bad (.incomplete h)
    | n, _ => if 1 ≤ n ∧ n ≤ 12 then .bad (.incomplete h) else .bad (.invalidHeader h)

/-- PORT 11: a render; every other field must be 0 (30_encoding.md R88). -/
def decodeRender (h : Word) (ws : List Word) : Decoded :=
  if headerW h ≠ 0 ∨ headerSz h ≠ 0 ∨ headerOff h ≠ 0 then .bad (.invalidHeader h)
  else .ok .render ws

/-- The operation at the front of a stream of words, and the words after it. -/
def decode : List Word → Decoded
  | [] => .bad .empty
  | h :: ws =>
    if headerRsv h ≠ 0 then .bad (.invalidHeader h)
    else
      match headerPort h with
      | 0 => decodeRegister h ws
      | 1 => decodeVram h ws
      | 2 => decodeCommand h ws
      | _ => decodeRender h ws

/-! ## The encoder (30_encoding.md R81, R90, R91) -/

/-- A header from its fields. -/
def mkHeader (port w sz off : Nat) : Word :=
  BitVec.ofNat 32 (port * 2 ^ 30 + w * 2 ^ 29 + sz * 2 ^ 27 + off)

/-- A register read's words. -/
def encodeRead (sz : AccessSize) (off : Nat) : List Word :=
  [mkHeader 0 0 (szOfSize sz) off]

/-- A register write's words. -/
def encodeWrite (sz : AccessSize) (off : Nat) (d : Data) : List Word :=
  mkHeader 0 1 (szOfSize sz) off :: dataWords d

/-- A command's words. -/
def encodeCommand (cmd : Nat) (args : List Word) : List Word :=
  mkHeader 2 0 0 cmd :: args

/-- The words that spell a well-formed operation. -/
def encode : Instr → List Word
  | .rdDeviceId sz => encodeRead sz 0x000
  | .wrDeviceId sz data => encodeWrite sz 0x000 data
  | .rdStatus sz => encodeRead sz 0x004
  | .wrStatus sz data => encodeWrite sz 0x004 data
  | .rdControl sz => encodeRead sz 0x008
  | .wrControl sz data => encodeWrite sz 0x008 data
  | .rdFbAddr sz => encodeRead sz 0x00C
  | .wrFbAddr sz data => encodeWrite sz 0x00C data
  | .rdFbWidth sz => encodeRead sz 0x010
  | .wrFbWidth sz data => encodeWrite sz 0x010 data
  | .rdFbHeight sz => encodeRead sz 0x014
  | .wrFbHeight sz data => encodeWrite sz 0x014 data
  | .rdFbBpp sz => encodeRead sz 0x018
  | .wrFbBpp sz data => encodeWrite sz 0x018 data
  | .rdFbEnable sz => encodeRead sz 0x01C
  | .wrFbEnable sz data => encodeWrite sz 0x01C data
  | .rdFbPitch sz => encodeRead sz 0x020
  | .wrFbPitch sz data => encodeWrite sz 0x020 data
  | .rdCursorX sz => encodeRead sz 0x024
  | .wrCursorX sz data => encodeWrite sz 0x024 data
  | .rdCursorY sz => encodeRead sz 0x028
  | .wrCursorY sz data => encodeWrite sz 0x028 data
  | .rdCursorEnable sz => encodeRead sz 0x02C
  | .wrCursorEnable sz data => encodeWrite sz 0x02C data
  | .rdCursorHotspotX sz => encodeRead sz 0x030
  | .wrCursorHotspotX sz data => encodeWrite sz 0x030 data
  | .rdCursorHotspotY sz => encodeRead sz 0x034
  | .wrCursorHotspotY sz data => encodeWrite sz 0x034 data
  | .rdCursorUpload sz => encodeRead sz 0x038
  | .wrCursorUpload sz data => encodeWrite sz 0x038 data
  | .rdFbCount sz => encodeRead sz 0x03C
  | .wrFbCount sz data => encodeWrite sz 0x03C data
  | .rdFbCurrent sz => encodeRead sz 0x040
  | .wrFbCurrent sz data => encodeWrite sz 0x040 data
  | .rdFbNext sz => encodeRead sz 0x044
  | .wrFbNext sz data => encodeWrite sz 0x044 data
  | .rdPageFlip sz => encodeRead sz 0x048
  | .wrPageFlip sz data => encodeWrite sz 0x048 data
  | .rdFlipPending sz => encodeRead sz 0x04C
  | .wrFlipPending sz data => encodeWrite sz 0x04C data
  | .rdVblankCount sz => encodeRead sz 0x050
  | .wrVblankCount sz data => encodeWrite sz 0x050 data
  | .rdUnmapped sz off => encodeRead sz off.toNat
  | .wrUnmapped sz off data => encodeWrite sz off.toNat data
  | .vrd sz addr => [mkHeader 1 0 (szOfSize sz) 0, addr]
  | .vwr sz addr data => mkHeader 1 1 (szOfSize sz) 0 :: addr :: dataWords data
  | .setupSingle w h bpp => encodeCommand 0x01 [w, h, bpp]
  | .setupMulti count w h bpp => encodeCommand 0x02 [count, w, h, bpp]
  | .requestFlip index wait => encodeCommand 0x03 [index, wait]
  | .waitForFlip budget => encodeCommand 0x04 [budget]
  | .describe => encodeCommand 0x05 []
  | .getVramSize => encodeCommand 0x06 []
  | .enableDisplay b => encodeCommand 0x07 [b]
  | .setPosition x y => encodeCommand 0x08 [x, y]
  | .setHotspot x y => encodeCommand 0x09 [x, y]
  | .setEnabled b => encodeCommand 0x0A [b]
  | .uploadPixel argb => encodeCommand 0x0B [argb]
  | .uploadBulk count pixels => encodeCommand 0x0C (count :: BitVec.ofNat 32 pixels.length :: pixels)
  | .render => [mkHeader 3 0 0 0]

/-! ## Ports and agents (30_encoding.md R82) -/

/-- The agent that issues a port's operations (30_encoding.md R82). -/
def Port.agent : Port → Agent
  | .register => .guest
  | .vram => .guest
  | .command => .driver
  | .render => .display

/-- The port an operation is issued on: the PORT field of its header (30_encoding.md R81, R87). -/
def Instr.port : Instr → Port
  | .rdDeviceId _ | .wrDeviceId _ _ | .rdStatus _ | .wrStatus _ _ | .rdControl _ | .wrControl _ _
  | .rdFbAddr _ | .wrFbAddr _ _ | .rdFbWidth _ | .wrFbWidth _ _ | .rdFbHeight _ | .wrFbHeight _ _
  | .rdFbBpp _ | .wrFbBpp _ _ | .rdFbEnable _ | .wrFbEnable _ _ | .rdFbPitch _ | .wrFbPitch _ _
  | .rdCursorX _ | .wrCursorX _ _ | .rdCursorY _ | .wrCursorY _ _ | .rdCursorEnable _ | .wrCursorEnable _ _
  | .rdCursorHotspotX _ | .wrCursorHotspotX _ _ | .rdCursorHotspotY _ | .wrCursorHotspotY _ _
  | .rdCursorUpload _ | .wrCursorUpload _ _ | .rdFbCount _ | .wrFbCount _ _ | .rdFbCurrent _
  | .wrFbCurrent _ _ | .rdFbNext _ | .wrFbNext _ _ | .rdPageFlip _ | .wrPageFlip _ _ | .rdFlipPending _
  | .wrFlipPending _ _ | .rdVblankCount _ | .wrVblankCount _ _ | .rdUnmapped _ _ | .wrUnmapped _ _ _ => .register
  | .vrd _ _ | .vwr _ _ _ => .vram
  | .setupSingle _ _ _ | .setupMulti _ _ _ _ | .requestFlip _ _ | .waitForFlip _ | .describe | .getVramSize
  | .enableDisplay _ | .setPosition _ _ | .setHotspot _ _ | .setEnabled _ | .uploadPixel _
  | .uploadBulk _ _ => .command
  | .render => .render
/-! ## The words of a row of the opcode table -/

/-- The words of an instruction whose first `nbits` bits are `w`, bit 0 the least significant bit of the first
word, followed by operand words of zeros up to the longest instruction with a zero length word. -/
def tableWords (nbits w : Nat) : List Word :=
  (List.range ((nbits + 31) / 32)).map (fun k => BitVec.ofNat 32 (w / 2 ^ (32 * k))) ++ List.replicate 4 0

/-- The same words less the zeros that the instruction they spell does not read. -/
def tableWordsExact (nbits w : Nat) : List Word :=
  match decode (tableWords nbits w) with
  | .ok _ rest => (tableWords nbits w).take ((tableWords nbits w).length - rest.length)
  | .bad _ => tableWords nbits w

/-- The instruction the decoder reads from an instruction whose bits are `w`. -/
def decodeTableWord (nbits w : Nat) : Option Instr :=
  match decode (tableWords nbits w) with
  | .ok i _ => some i
  | .bad _ => none

end Sys2Proof
end

