-- ==== Sys2Proof/Config.lean ====
section
/-! DEFINITION. What an implementation fixes (00_scope.md R6, R7) and the free values (R13).
A constant without a body is a parameter or a free value that nothing constrains. -/

namespace Sys2Proof.Config

/-- Size of the register space in bytes (00_scope.md R6). -/
def regSpace : Nat := 4096

/-- At most this many framebuffers (00_scope.md R6). -/
def maxFb : Nat := 4

/-- Pixels of the cursor bitmap, 64 by 64 (00_scope.md R6). -/
def cursorPixels : Nat := 4096

/-- The default mode (00_scope.md R6, 10_state.md R20). -/
def defaultWidth : Word := 800
def defaultHeight : Word := 600
def defaultBpp : Word := 32
def defaultPitch : Word := 3200

/-- Slice size at attach: 3200 * 600 (10_state.md R20). -/
def defaultFbSize : Nat := 1920000

/-- The reference VRAM capacity, 16 MiB (00_scope.md R6, R7). -/
def referenceVramSize : Nat := 16777216

/-- The bounds on VRAM_SIZE (00_scope.md R7). -/
def minVramSize : Nat := 1920000
def maxVramSize : Nat := 2 ^ 32

/-- The default flip-wait budget in polls (00_scope.md R7). -/
def waitFlipPolls : Nat := 100

/-- DEVICE_ID_VALUE, a parameter the spec leaves OPEN (00_scope.md R7, 10_state.md R23). -/
opaque deviceIdValue : Word

/-- REG_BASE, a platform parameter the spec leaves OPEN (00_scope.md R7, 20_memory.md R61). -/
opaque regBase : Nat

/-- One less than the size of the platform's page. The spec has a page-aligned VRAM window (00_scope.md R7,
20_memory.md R61) and states no page size: DESIGN CHOICE, any positive size (log entry 12). -/
opaque pageSizeLessOne : Nat

/-- The page size, in bytes. -/
def pageSize : Nat := pageSizeLessOne + 1

/-- The page the VRAM window starts at, OPEN (00_scope.md R7). -/
opaque vramPage : Nat

/-- VRAM_BASE, OPEN but page-aligned (00_scope.md R7): the start of a page, whichever page and page size. -/
def vramBase : Nat := vramPage * pageSize

/-- VRAM_INIT: the byte each VRAM address holds at attach, OPEN (00_scope.md R7, 10_state.md R45). -/
opaque vramInit : Nat → Byte

/-- DEFAULT_CURSOR_BITMAP, pixel by pixel, OPEN (00_scope.md R7, 42_cursor_overlay.md R206). -/
opaque defaultCursorPixel : Nat → Word

/-- DEFAULT_CURSOR_BITMAP as the 4096 pixels of the bitmap. -/
def defaultCursorBitmap : Vector Word 4096 :=
  ⟨((List.range 4096).map defaultCursorPixel).toArray, by simp⟩

/-- STATUS bit 1, free at every read (10_state.md R24): the value of the n-th draw. -/
opaque freeStatusBit : Nat → BitVec 1

/-- The pixels of a surface nothing specifies (10_state.md R47): pixel `i` of the n-th draw. -/
opaque freePixel : Nat → Nat → Word

end Sys2Proof.Config
end

