-- ==== Sys2Proof/Machine/State.lean ====
section
/-! DEFINITION. The state of one device instance as plain data, the reasons a step can stop, and the state
after attach (10_state.md R20, 70_reset_and_hazards.md R330). -/

namespace Sys2Proof.Machine

/-- VRAM as the list of the bytes that have been written, by rising address. An address that is not listed has
not been written since attach and holds its VRAM_INIT byte (log entry 8). -/
abbrev Memory := List Host.Cell

/-! ## What operations return -/

/-- Result codes of the command port (60_exceptions.md R302, R303). -/
inductive ResultCode where
  | ok | invalidArgument | outOfMemory | busy | timeout | unsupported
  deriving DecidableEq, Repr

/-- Why a render did nothing (43_compositor.md R241). -/
inductive NoOpReason where
  | clean | disabled | unsupported | malformed
  deriving DecidableEq, Repr

/-- Render statuses (60_exceptions.md R303). -/
inductive RenderStatus where
  | rendered
  | noOp (reason : NoOpReason)
  deriving DecidableEq, Repr

/-- The record DESCRIBE returns (41_framebuffer_manager.md R155). -/
structure SetInfo where
  count : Word
  current : Word
  size : Nat
  offsets : Vector Nat 4
  deriving DecidableEq, Repr

/-- The record of a command's result, if it has one (60_exceptions.md R303). -/
inductive ResultRecord where
  | none
  | size (n : Nat)
  | info (r : SetInfo)
  deriving DecidableEq, Repr

/-- What an operation returns to the agent that issued it. -/
inductive Response where
  /-- A write completed; it returns nothing (60_exceptions.md R300). -/
  | done
  /-- A read's 64-bit DATA (30_encoding.md R84). -/
  | data (v : Data)
  /-- A command's result code and record. -/
  | result (code : ResultCode) (record : ResultRecord)
  /-- A render's status. -/
  | status (st : RenderStatus)
  deriving DecidableEq, Repr

/-! ## The diagnostic log (10_state.md R48) -/

inductive DiagKind where
  | unmappedRead | unmappedWrite | outOfRange | readOnlyWrite | writeOnlyRead | rejectedWrite
  deriving DecidableEq, Repr

structure DiagEvent where
  kind : DiagKind
  offset : Off
  deriving DecidableEq, Repr

/-! ## The output surface (10_state.md R47) -/

/-- The pixels of a surface. -/
inductive Pixels where
  /-- Nothing specifies them: they are the free pixels of a draw (log entry 7). -/
  | unspecified (draw : Nat)
  /-- Pixel (x, y) is entry `y * w + x`. -/
  | shown (px : Array Word)
  deriving DecidableEq, Repr

structure Surface where
  w : Word
  h : Word
  px : Pixels
  deriving DecidableEq, Repr

/-! ## A render in progress (43_compositor.md R242, R243, R247) -/

/-- The cursor state a render fixes at its first step (43_compositor.md R242). -/
structure CursorShot where
  enable : Word
  x : Int
  y : Int
  hx : Int
  hy : Int
  bitmap : Vector Word 4096
  deriving DecidableEq, Repr

/-- A render between its first and its last step. Scratch byte `4 * (y * w + x) + k` is byte `k` of
scratch pixel (x, y); `todo` lists the scratch bytes whose VRAM byte is still to be read, and a
scratch byte means nothing until it has been read. -/
structure RenderJob where
  w : Word
  h : Word
  pitch : Word
  addr : Word
  cursor : CursorShot
  todo : List Nat
  scratch : Array Byte
  deriving DecidableEq, Repr

/-- What goes next inside a render (43_compositor.md R247): a VRAM-port transaction, or one step of the render,
which reads the `pick`-th of the bytes still to be read (log entries 3 and 4). -/
inductive Choice where
  | vram
  | compositor (pick : Nat)
  deriving DecidableEq, Repr

/-! ## Parameters (00_scope.md R7; log entries 10 to 12) -/

structure Params where
  vramSize : Nat
  deviceId : Word
  regBase : Nat
  vramBase : Nat
  pageSize : Nat
  waitFlipPolls : Nat
  deriving DecidableEq, Repr

/-! ## The state -/

structure State where
  params : Params
  -- registers (10_state.md R20, R25 to R34)
  control : Word
  fbAddr : Word
  fbWidth : Word
  fbHeight : Word
  fbBpp : Word
  fbEnable : Word
  fbPitch : Word
  cursorX : Word
  cursorY : Word
  cursorEnable : Word
  hotspotX : Word
  hotspotY : Word
  -- FramebufferSet and FlipState (10_state.md R42, R43)
  fbCount : Word
  fbSize : Nat
  current : Word
  next : Word
  pending : Bool
  vblankCount : Word
  -- cursor (10_state.md R44)
  bitmap : Vector Word 4096
  uploadCursor : Fin 4096
  cursorLoaded : Bool
  -- memory, dirty flag, surface, log (10_state.md R45 to R48)
  vram : Memory
  dirty : Bool
  surface : Surface
  diag : List DiagEvent
  -- a render between its first and its last step (43_compositor.md R247)
  render : Option RenderJob
  -- the model's own: offered operations, choices inside renders, responses, draws (log entries 2 to 6)
  input : List Word
  sched : List Choice
  out : List Response
  draws : Nat
  deriving DecidableEq, Repr

/-- The block never faults (60_exceptions.md R300: no operation raises an exception or stops the block), so there is
no fault. -/
inductive Fault where
  deriving DecidableEq, Repr

/-- Why a step refuses the words it is given. -/
inductive Refusal where
  /-- `exec` raises it for an instruction that has no meaning yet; safe. -/
  | notModelled (mnemonic : String)
  /-- `step` raises it for an invalid header, which spells no operation (30_encoding.md R88); safe. -/
  | invalidHeader (h : Word)
  /-- `step` raises it when fewer words follow a valid header than its operands need (log entry 14); safe. -/
  | incompleteOperation (h : Word)
  deriving DecidableEq, Repr

/-- The parameters after attach: the reference capacity and wait budget, the others uninterpreted (00_scope.md R7). -/
def Params.reset : Params :=
  { vramSize := Config.referenceVramSize
    deviceId := Config.deviceIdValue
    regBase := Config.regBase
    vramBase := Config.vramBase
    pageSize := Config.pageSize
    waitFlipPolls := Config.waitFlipPolls }

/-- The state at attach (10_state.md R20, column "attach value"). -/
def State.reset : State :=
  { params := Params.reset
    control := 0
    fbAddr := 0
    fbWidth := Config.defaultWidth
    fbHeight := Config.defaultHeight
    fbBpp := Config.defaultBpp
    fbEnable := 0
    fbPitch := Config.defaultPitch
    cursorX := 0
    cursorY := 0
    cursorEnable := 0
    hotspotX := 0
    hotspotY := 0
    fbCount := 1
    fbSize := Config.defaultFbSize
    current := 0
    next := 0
    pending := false
    vblankCount := 0
    bitmap := Config.defaultCursorBitmap
    uploadCursor := 0
    cursorLoaded := false
    vram := []
    dirty := false
    surface := { w := Config.defaultWidth, h := Config.defaultHeight, px := .unspecified 0 }
    diag := []
    render := none
    input := []
    sched := []
    out := []
    draws := 1 }

end Sys2Proof.Machine
end

