-- ==== Sys2Proof/Machine/Flags.lean ====
section
/-! DEFINITION. The flags of the block: the dirty flag, the bits of STATUS, FLIP_PENDING, and the two state
machines read off the state (10_state.md R24, R40, R43, R44, R46, R49). -/

namespace Sys2Proof.Machine

/-- `mark_dirty()` (00_scope.md R10, 10_state.md R46). -/
def State.markDirty (s : State) : State := { s with dirty := true }

/-- A boolean as a register bit. -/
def bitWord (b : Bool) : Word := if b then 1 else 0

/-- The value of STATUS when bit 1 is `b1`: READY, VBLANK, CURSOR_LOADED, and zeros (10_state.md R24). -/
def statusWord (b1 : BitVec 1) (loaded : Bool) : Word :=
  1 ||| (b1.setWidth 32 <<< 1) ||| (bitWord loaded <<< 2)

/-- The value of FLIP_PENDING: bit 0 is `pending`, the others are 0 (10_state.md R40). -/
def flipPendingWord (pending : Bool) : Word := bitWord pending

/-- Output is enabled (10_state.md R30). -/
def State.outputEnabled (s : State) : Bool := s.fbEnable != 0

/-- The cursor state machine: true in Enabled, false in Disabled (42_cursor_overlay.md R203). -/
def State.cursorShown (s : State) : Bool := s.cursorEnable != 0

/-- The flip state machine: true in Idle, false in FlipPending (10_state.md R43, 41_framebuffer_manager.md R158). -/
def State.flipIdle (s : State) : Bool := !s.pending

end Sys2Proof.Machine
end

