-- ==== Sys2Proof/Machine/Operands.lean ====
section
/-! DEFINITION. Operand forms: access sizes, the shaping of register-port data, signed readings and boolean
arguments (30_encoding.md R83 to R86, 40_register_bank.md R101, R102, 00_scope.md R9). -/

namespace Sys2Proof.Machine

/-- The bytes an access moves (30_encoding.md R83). -/
def sizeBytes : AccessSize → Nat
  | .s1 => 1
  | .s2 => 2
  | .s4 => 4
  | .s8 => 8

/-- `trunc_N(v)` (00_scope.md R9). -/
def truncNat (n v : Nat) : Nat := v % 2 ^ n

/-- What a register read returns: the read value truncated to the size, zero-extended (40_register_bank.md R101). -/
def shapeRead (x : Word) (sz : AccessSize) : Data :=
  BitVec.ofNat 64 (truncNat (8 * sizeBytes sz) x.toNat)

/-- The value a register write uses: the low `min(8*size, 32)` bits of DATA (40_register_bank.md R102). -/
def shapeWrite (d : Data) (sz : AccessSize) : Word :=
  BitVec.ofNat 32 (truncNat (min (8 * sizeBytes sz) 32) d.toNat)

/-- The value a VRAM write stores: the low `8*size` bits of DATA (30_encoding.md R85, 44_guest_interface.md R273). -/
def vramWriteValue (d : Data) (sz : AccessSize) : Nat :=
  truncNat (8 * sizeBytes sz) d.toNat

/-- `sint32(v)`, the signed reading of a u32 (00_scope.md R9). -/
def sint32 (v : Word) : Int :=
  if v.toNat < 2 ^ 31 then (v.toNat : Int) else (v.toNat : Int) - 2 ^ 32

/-- A boolean argument as the word it stores: 1 iff nonzero (30_encoding.md R85). -/
def boolWord (b : Word) : Word := if b ≠ 0 then 1 else 0

/-- The number of a result code (60_exceptions.md R303). -/
def resultCodeNumber : ResultCode → Nat
  | .ok => 0
  | .invalidArgument => 1
  | .outOfMemory => 2
  | .busy => 3
  | .timeout => 4
  | .unsupported => 5

/-! ## ARGB channels (43_compositor.md preamble) -/

def alphaOf (p : Word) : Nat := p.toNat / 2 ^ 24
def redOf (p : Word) : Nat := p.toNat / 2 ^ 16 % 256
def greenOf (p : Word) : Nat := p.toNat / 2 ^ 8 % 256
def blueOf (p : Word) : Nat := p.toNat % 256

/-- An opaque pixel from its channels (43_compositor.md R245). -/
def opaquePixel (r g b : Nat) : Word :=
  BitVec.ofNat 32 (0xFF * 2 ^ 24 + r * 2 ^ 16 + g * 2 ^ 8 + b)

end Sys2Proof.Machine
end

