-- ==== Sys2Proof/Machine/Ops.lean ====
section
/-! DEFINITION. The operations every family shares: responses, absorbed violations, VRAM.
The block takes no exception (60_exceptions.md R300, R307): `State.logDiag`, the one place where a violation is
absorbed (R301), stands where another hardware would have its exception entry, and there is no return. -/

namespace Sys2Proof.Machine

/-- The outcome of an operation. -/
abbrev StepOutcome := Host.Outcome State Fault Refusal

/-- Return a response to the agent (log entry 5). -/
def State.respond (s : State) (r : Response) : State := { s with out := s.out ++ [r] }

/-- `log_diag(kind, off)` (10_state.md R48, 60_exceptions.md R301). -/
def State.logDiag (s : State) (kind : DiagKind) (off : Off) : State :=
  { s with diag := s.diag ++ [{ kind := kind, offset := off }] }

/-- Complete a register or VRAM write. -/
def completeWrite (s : State) : StepOutcome := .next (s.respond .done)

/-- Complete a register read whose read value is `x` (40_register_bank.md R101). -/
def completeRead (x : Word) (sz : AccessSize) (s : State) : StepOutcome :=
  .next (s.respond (.data (shapeRead x sz)))

/-- A read of a write-only register: 0, and a diagnostic (40_register_bank.md R104). -/
def readWriteOnly (off : Off) (s : State) : StepOutcome :=
  .next ((s.logDiag .writeOnlyRead off).respond (.data 0))

/-- A write of a read-only register: no state change but a diagnostic (40_register_bank.md R103). -/
def writeReadOnly (off : Off) (s : State) : StepOutcome :=
  completeWrite (s.logDiag .readOnlyWrite off)

/-- Complete a command with a code and no record (60_exceptions.md R303). -/
def completeCommand (r : ResultCode × State) : StepOutcome :=
  .next (r.2.respond (.result r.1 .none))

/-! ## VRAM (10_state.md R45, 20_memory.md R62) -/

/-- The canonical form: addresses strictly rising. No entry can equal what an unlisted address is, since an
unlisted address has no written byte (log entry 8). -/
def Memory.wf : Memory → Bool
  | [] => true
  | [_] => true
  | c :: d :: m => decide (c.1 < d.1) && Memory.wf (d :: m)

/-- The byte written at an address, if one has been. -/
def Memory.find (m : Memory) (a : Nat) : Option Byte :=
  match m with
  | [] => none
  | (k, b) :: r => if k = a then some b else Memory.find r a

/-- Write a byte, keeping the canonical form. -/
def Memory.set (m : Memory) (a : Nat) (b : Byte) : Memory :=
  match m with
  | [] => [(a, b)]
  | (k, v) :: r =>
    if a < k then (a, b) :: (k, v) :: r
    else if a = k then (a, b) :: r
    else (k, v) :: Memory.set r a b

/-- The byte of VRAM at an address: the written byte, or the VRAM_INIT byte (10_state.md R45). -/
def Memory.byte (m : Memory) (a : Nat) : Byte := (Memory.find m a).getD (Config.vramInit a)

/-- `MemRead(a, n)`: the n-byte little-endian number at a (00_scope.md R10, 20_memory.md R62). -/
def Memory.readLE (m : Memory) (a : Nat) : Nat → Nat
  | 0 => 0
  | n + 1 => (Memory.byte m a).toNat + 256 * Memory.readLE m (a + 1) n

/-- `MemWrite(a, n, v)`: byte a+i gets bits 8i+7:8i of v (00_scope.md R10, 44_guest_interface.md R273). -/
def Memory.writeLE (m : Memory) (a : Nat) (n v : Nat) : Memory :=
  match n with
  | 0 => m
  | k + 1 => Memory.writeLE (Memory.set m a (BitVec.ofNat 8 v)) (a + 1) k (v / 256)

/-- An access of `n` bytes at `a` ends inside VRAM (44_guest_interface.md R274). -/
def State.inVram (s : State) (a n : Nat) : Bool := decide (a + n ≤ s.params.vramSize)

end Sys2Proof.Machine
end

