-- ==== Sys2Proof/Machine/Compositor.lean ====
section
/-! DEFINITION. The Compositor: gate, snapshot, background copy, cursor overlay, blend and present
(43_compositor.md). A render has a first step, one step per VRAM byte and a last step (R247); `finishRender` runs
all the steps that remain when nothing else falls between them (log entry 3). -/

namespace Sys2Proof.Machine

/-! ## Gate and snapshot -/

/-- `gate()`: none to go, or why the render does nothing (43_compositor.md R241). -/
def State.gate (s : State) : Option NoOpReason :=
  if s.dirty = false then some .clean
  else if s.fbEnable = 0 then some .disabled
  else if s.fbBpp ≠ 32 then some .unsupported
  else if s.fbWidth = 0 ∨ s.fbHeight = 0 then some .malformed
  else if s.fbPitch.toNat < 4 * s.fbWidth.toNat ∨
      s.fbAddr.toNat + s.fbPitch.toNat * s.fbHeight.toNat > s.params.vramSize then some .malformed
  else none

/-- The cursor state a render fixes (43_compositor.md R242). -/
def State.cursorShot (s : State) : CursorShot :=
  { enable := s.cursorEnable
    x := sint32 s.cursorX
    y := sint32 s.cursorY
    hx := sint32 s.hotspotX
    hy := sint32 s.hotspotY
    bitmap := s.bitmap }

/-- Bytes of a scratch buffer of w by h pixels. -/
def scratchBytes (w h : Word) : Nat := 4 * (w.toNat * h.toNat)

/-- The render after its first step: the snapshot, and every byte still to be read (43_compositor.md R242, R247).
The scratch bytes mean nothing before they are read. -/
def State.beginRender (s : State) : RenderJob :=
  { w := s.fbWidth
    h := s.fbHeight
    pitch := s.fbPitch
    addr := s.fbAddr
    cursor := s.cursorShot
    todo := List.range (scratchBytes s.fbWidth s.fbHeight)
    scratch := Array.replicate (scratchBytes s.fbWidth s.fbHeight) 0 }

/-! ## Background copy (43_compositor.md R243) -/

/-- The VRAM address of scratch byte `j`: byte `j % 4` of pixel (x, y) is at `A + y*P + 4*x + j % 4`. -/
def RenderJob.byteAddr (job : RenderJob) (j : Nat) : Nat :=
  job.addr.toNat + (j / 4 / job.w.toNat) * job.pitch.toNat + 4 * (j / 4 % job.w.toNat) + j % 4

/-- Read one byte of VRAM into the scratch buffer. -/
def RenderJob.fill (job : RenderJob) (vram : Memory) (scratch : Array Byte) (j : Nat) : Array Byte :=
  scratch.setIfInBounds j (Memory.byte vram (job.byteAddr j))

/-- One byte-read step: it reads the `pick`-th of the bytes still to be read (43_compositor.md R247). -/
def RenderJob.readByte (job : RenderJob) (vram : Memory) (pick : Nat) : RenderJob :=
  let k := pick % job.todo.length
  match job.todo[k]? with
  | none => job
  | some j => { job with todo := job.todo.eraseIdx k, scratch := job.fill vram job.scratch j }

/-- All the byte reads that remain, with nothing between them. -/
def RenderJob.readRest (job : RenderJob) (vram : Memory) : Array Byte :=
  job.todo.foldl (job.fill vram) job.scratch

/-- The little-endian word of four scratch bytes (43_compositor.md R243). -/
def scratchWord (scratch : Array Byte) (p : Nat) : Word :=
  (scratch.getD (4 * p + 3) 0 ++ scratch.getD (4 * p + 2) 0) ++
    (scratch.getD (4 * p + 1) 0 ++ scratch.getD (4 * p) 0)

/-- The scratch buffer as w * h pixels, row by row. -/
def scratchPixels (w h : Word) (scratch : Array Byte) : Array Word :=
  ((List.range (w.toNat * h.toNat)).map (scratchWord scratch)).toArray

/-! ## Cursor overlay (43_compositor.md R244, R245) -/

/-- One channel of the blend: `(fg*a + bg*(255-a)) div 255` (43_compositor.md R245). -/
def blendChannel (fg bg a : Nat) : Nat := (fg * a + bg * (255 - a)) / 255

/-- `blend(fg, bg, a)` (43_compositor.md R245). -/
def blend (fg bg : Word) (a : Nat) : Word :=
  opaquePixel (blendChannel (redOf fg) (redOf bg) a) (blendChannel (greenOf fg) (greenOf bg) a)
    (blendChannel (blueOf fg) (blueOf bg) a)

/-- A cursor pixel over a background pixel (43_compositor.md R244). -/
def composePixel (p bg : Word) : Word :=
  if alphaOf p = 0 then bg
  else if alphaOf p = 255 then p
  else blend p bg (alphaOf p)

/-- Draw cursor pixel `k`, at (k mod 64, k div 64) of the bitmap, if it lands on the screen. -/
def overlayPixel (w h : Word) (cur : CursorShot) (k : Nat) (p : Word) (px : Array Word) : Array Word :=
  let sx : Int := cur.x - cur.hx + (k % 64 : Nat)
  let sy : Int := cur.y - cur.hy + (k / 64 : Nat)
  if sx < 0 ∨ (w.toNat : Int) ≤ sx ∨ sy < 0 ∨ (h.toNat : Int) ≤ sy then px
  else
    let i := sy.toNat * w.toNat + sx.toNat
    px.setIfInBounds i (composePixel p (px.getD i 0))

/-- The loop over the bitmap, from pixel `k` on. -/
def overlayFrom (w h : Word) (cur : CursorShot) (k : Nat) (ps : List Word) (px : Array Word) : Array Word :=
  match ps with
  | [] => px
  | p :: r => overlayFrom w h cur (k + 1) r (overlayPixel w h cur k p px)

/-- `overlay_cursor`, only if the cursor is enabled (43_compositor.md R240, R244). -/
def overlayCursor (w h : Word) (cur : CursorShot) (px : Array Word) : Array Word :=
  if cur.enable ≠ 0 then overlayFrom w h cur 0 cur.bitmap.toList px else px

/-! ## Present (43_compositor.md R246) -/

/-- The last step of a render: overlay, present, clear dirty, and return Rendered. -/
def State.present (s : State) (job : RenderJob) (scratch : Array Byte) : State :=
  State.respond
    { s with
      surface := { w := job.w, h := job.h, px := .shown (overlayCursor job.w job.h job.cursor (scratchPixels job.w job.h scratch)) }
      dirty := false
      render := none }
    (.status .rendered)

/-- All the steps of a render that remain, with nothing between them (log entry 3). -/
def State.finishRender (s : State) (job : RenderJob) : State :=
  s.present job (job.readRest s.vram)

/-- One step of a render: a byte read, or the last step when no byte is left (43_compositor.md R247). -/
def State.renderAdvance (s : State) (job : RenderJob) (pick : Nat) : State :=
  match job.todo with
  | [] => s.present job job.scratch
  | _ :: _ => { s with render := some (job.readByte s.vram pick) }

/-- RENDER (43_compositor.md R240): a NoOp is one step. A render that goes runs to its end when no choice is
offered for its inside, and stays in progress after its first step when one is (log entry 3). -/
def execRender (s : State) : StepOutcome :=
  match s.gate with
  | some reason => .next (s.respond (.status (.noOp reason)))
  | none =>
    match s.sched with
    | [] => .next (s.finishRender s.beginRender)
    | _ :: _ => .next { s with render := some s.beginRender }

/-! ## The displayed pixel -/

/-- Pixel (x, y) of a surface, for x < w and y < h; a free value where nothing specifies it (10_state.md R47). -/
def Surface.pixel (f : Surface) (x y : Nat) : Word :=
  match f.px with
  | .unspecified d => Config.freePixel d (y * f.w.toNat + x)
  | .shown px => px.getD (y * f.w.toNat + x) 0

end Sys2Proof.Machine
end

