-- ==== Sys2Proof/Machine/CursorOverlay.lean ====
section
/-! DEFINITION. The CursorOverlay: position, hotspot, enable state machine and bitmap uploads
(42_cursor_overlay.md). -/

namespace Sys2Proof.Machine

/-! ## Shared operations -/

/-- `upload_pixel(p)` (42_cursor_overlay.md R204). -/
def State.uploadPixel (s : State) (p : Word) : State :=
  let s := { s with bitmap := s.bitmap.set s.uploadCursor.val p s.uploadCursor.isLt }
  if h : s.uploadCursor.val + 1 < 4096 then { s with uploadCursor := ⟨s.uploadCursor.val + 1, h⟩ }
  else { s with uploadCursor := 0, cursorLoaded := true, dirty := true }

/-- Upload pixels in order (42_cursor_overlay.md R205). -/
def State.uploadPixels (s : State) (ps : List Word) : State :=
  ps.foldl State.uploadPixel s

/-- `upload_bulk(pixels, count)` (42_cursor_overlay.md R205). -/
def State.uploadBulk (s : State) (count : Word) (pixels : List Word) : ResultCode × State :=
  if count.toNat > Config.cursorPixels ∨ count.toNat > pixels.length then (.invalidArgument, s)
  else (.ok, s.uploadPixels (pixels.take count.toNat))

/-- The write effect of CURSOR_ENABLE (42_cursor_overlay.md R203, R215). -/
def State.writeCursorEnable (s : State) (v : Word) : State :=
  State.markDirty { s with cursorEnable := v }

/-! ## Commands -/

/-- SET_POSITION (42_cursor_overlay.md R200). -/
def execSetPosition (x y : Word) (s : State) : StepOutcome :=
  completeCommand (.ok, State.markDirty { s with cursorX := x, cursorY := y })

/-- SET_HOTSPOT; dirty is unchanged (42_cursor_overlay.md R201). -/
def execSetHotspot (x y : Word) (s : State) : StepOutcome :=
  completeCommand (.ok, { s with hotspotX := x, hotspotY := y })

/-- SET_ENABLED (42_cursor_overlay.md R202). -/
def execSetEnabled (b : Word) (s : State) : StepOutcome :=
  completeCommand (.ok, s.writeCursorEnable (boolWord b))

/-- UPLOAD_PIXEL (42_cursor_overlay.md R204). -/
def execUploadPixel (argb : Word) (s : State) : StepOutcome :=
  completeCommand (.ok, s.uploadPixel argb)

/-- UPLOAD_BULK (42_cursor_overlay.md R205). -/
def execUploadBulk (count : Word) (pixels : List Word) (s : State) : StepOutcome :=
  completeCommand (s.uploadBulk count pixels)

/-! ## Registers -/

/-- RD_CURSOR_X (42_cursor_overlay.md R210). -/
def execRdCursorX (sz : AccessSize) (s : State) : StepOutcome :=
  completeRead s.cursorX sz s

/-- WR_CURSOR_X (42_cursor_overlay.md R211). -/
def execWrCursorX (sz : AccessSize) (data : Data) (s : State) : StepOutcome :=
  completeWrite (State.markDirty { s with cursorX := shapeWrite data sz })

/-- RD_CURSOR_Y (42_cursor_overlay.md R212). -/
def execRdCursorY (sz : AccessSize) (s : State) : StepOutcome :=
  completeRead s.cursorY sz s

/-- WR_CURSOR_Y (42_cursor_overlay.md R213). -/
def execWrCursorY (sz : AccessSize) (data : Data) (s : State) : StepOutcome :=
  completeWrite (State.markDirty { s with cursorY := shapeWrite data sz })

/-- RD_CURSOR_ENABLE (42_cursor_overlay.md R214). -/
def execRdCursorEnable (sz : AccessSize) (s : State) : StepOutcome :=
  completeRead s.cursorEnable sz s

/-- WR_CURSOR_ENABLE (42_cursor_overlay.md R215). -/
def execWrCursorEnable (sz : AccessSize) (data : Data) (s : State) : StepOutcome :=
  completeWrite (s.writeCursorEnable (shapeWrite data sz))

/-- RD_CURSOR_HOTSPOT_X (42_cursor_overlay.md R216). -/
def execRdCursorHotspotX (sz : AccessSize) (s : State) : StepOutcome :=
  completeRead s.hotspotX sz s

/-- WR_CURSOR_HOTSPOT_X; dirty is unchanged (42_cursor_overlay.md R217). -/
def execWrCursorHotspotX (sz : AccessSize) (data : Data) (s : State) : StepOutcome :=
  completeWrite { s with hotspotX := shapeWrite data sz }

/-- RD_CURSOR_HOTSPOT_Y (42_cursor_overlay.md R218). -/
def execRdCursorHotspotY (sz : AccessSize) (s : State) : StepOutcome :=
  completeRead s.hotspotY sz s

/-- WR_CURSOR_HOTSPOT_Y; dirty is unchanged (42_cursor_overlay.md R219). -/
def execWrCursorHotspotY (sz : AccessSize) (data : Data) (s : State) : StepOutcome :=
  completeWrite { s with hotspotY := shapeWrite data sz }

/-- RD_CURSOR_UPLOAD (42_cursor_overlay.md R220). -/
def execRdCursorUpload (_sz : AccessSize) (s : State) : StepOutcome :=
  readWriteOnly 0x038 s

/-- WR_CURSOR_UPLOAD (42_cursor_overlay.md R221). -/
def execWrCursorUpload (sz : AccessSize) (data : Data) (s : State) : StepOutcome :=
  completeWrite (s.uploadPixel (shapeWrite data sz))

end Sys2Proof.Machine
end

