-- ==== Sys2Proof/Machine/RegisterBank.lean ====
section
/-! DEFINITION. The RegisterBank: unmapped accesses and the nine display registers (40_register_bank.md). -/

namespace Sys2Proof.Machine

/-! ## Shared operations -/

/-- An access runs past the end of the register space (40_register_bank.md R107, 44_guest_interface.md R271). -/
def pastRegisterEnd (off : Off) (sz : AccessSize) : Bool :=
  decide (off.toNat + sizeBytes sz > Config.regSpace)

/-- `recompute_pitch()` (40_register_bank.md R109). -/
def State.recomputePitch (s : State) : State :=
  { s with fbPitch := BitVec.ofNat 32 (s.fbWidth.toNat * (s.fbBpp.toNat / 8)) }

/-- `ctrl_reset()` (40_register_bank.md R116). -/
def State.ctrlReset (s : State) : State :=
  { s with
    fbWidth := Config.defaultWidth
    fbHeight := Config.defaultHeight
    fbBpp := Config.defaultBpp
    fbPitch := Config.defaultPitch
    fbEnable := 0
    dirty := true }

/-- The write effect of CONTROL (40_register_bank.md R115). -/
def State.writeControl (s : State) (v : Word) : State :=
  if v.toNat % 2 = 1 then State.ctrlReset { s with control := v &&& ~~~3 }
  else { s with control := v }

/-- Resize the surface to the mode registers, its pixels a new draw (40_register_bank.md R126, log entry 7). -/
def State.resizeSurface (s : State) : State :=
  { s with
    surface := { w := s.fbWidth, h := s.fbHeight, px := .unspecified s.draws }
    draws := s.draws + 1 }

/-- The write effect of FB_ENABLE (40_register_bank.md R126). -/
def State.writeFbEnable (s : State) (v : Word) : State :=
  if s.fbEnable = 0 ∧ v ≠ 0 then (State.resizeSurface { s with fbEnable := v }).markDirty
  else { s with fbEnable := v }

/-! ## Unmapped offsets -/

/-- RD_UNMAPPED (40_register_bank.md R105, R107). -/
def execRdUnmapped (sz : AccessSize) (off : Off) (s : State) : StepOutcome :=
  let kind := if pastRegisterEnd off sz then DiagKind.outOfRange else DiagKind.unmappedRead
  .next ((s.logDiag kind off).respond (.data 0))

/-- WR_UNMAPPED (40_register_bank.md R106, R107). -/
def execWrUnmapped (sz : AccessSize) (off : Off) (_data : Data) (s : State) : StepOutcome :=
  let kind := if pastRegisterEnd off sz then DiagKind.outOfRange else DiagKind.unmappedWrite
  completeWrite (s.logDiag kind off)

/-! ## DEVICE_ID and STATUS -/

/-- RD_DEVICE_ID (40_register_bank.md R110). -/
def execRdDeviceId (sz : AccessSize) (s : State) : StepOutcome :=
  completeRead s.params.deviceId sz s

/-- WR_DEVICE_ID (40_register_bank.md R111). -/
def execWrDeviceId (_sz : AccessSize) (_data : Data) (s : State) : StepOutcome :=
  writeReadOnly 0x000 s

/-- RD_STATUS: bit 1 is a fresh draw (40_register_bank.md R112, log entry 6). -/
def execRdStatus (sz : AccessSize) (s : State) : StepOutcome :=
  completeRead (statusWord (Config.freeStatusBit s.draws) s.cursorLoaded) sz { s with draws := s.draws + 1 }

/-- WR_STATUS (40_register_bank.md R113). -/
def execWrStatus (_sz : AccessSize) (_data : Data) (s : State) : StepOutcome :=
  writeReadOnly 0x004 s

/-! ## CONTROL -/

/-- RD_CONTROL (40_register_bank.md R114). -/
def execRdControl (sz : AccessSize) (s : State) : StepOutcome :=
  completeRead s.control sz s

/-- WR_CONTROL (40_register_bank.md R115, R116). -/
def execWrControl (sz : AccessSize) (data : Data) (s : State) : StepOutcome :=
  completeWrite (s.writeControl (shapeWrite data sz))

/-! ## The active descriptor -/

/-- RD_FB_ADDR (40_register_bank.md R117). -/
def execRdFbAddr (sz : AccessSize) (s : State) : StepOutcome :=
  completeRead s.fbAddr sz s

/-- WR_FB_ADDR (40_register_bank.md R118). -/
def execWrFbAddr (sz : AccessSize) (data : Data) (s : State) : StepOutcome :=
  completeWrite (State.markDirty { s with fbAddr := shapeWrite data sz })

/-- RD_FB_WIDTH (40_register_bank.md R119). -/
def execRdFbWidth (sz : AccessSize) (s : State) : StepOutcome :=
  completeRead s.fbWidth sz s

/-- WR_FB_WIDTH (40_register_bank.md R120). -/
def execWrFbWidth (sz : AccessSize) (data : Data) (s : State) : StepOutcome :=
  completeWrite (State.recomputePitch { s with fbWidth := shapeWrite data sz }).markDirty

/-- RD_FB_HEIGHT (40_register_bank.md R121). -/
def execRdFbHeight (sz : AccessSize) (s : State) : StepOutcome :=
  completeRead s.fbHeight sz s

/-- WR_FB_HEIGHT (40_register_bank.md R122). -/
def execWrFbHeight (sz : AccessSize) (data : Data) (s : State) : StepOutcome :=
  completeWrite (State.markDirty { s with fbHeight := shapeWrite data sz })

/-- RD_FB_BPP (40_register_bank.md R123). -/
def execRdFbBpp (sz : AccessSize) (s : State) : StepOutcome :=
  completeRead s.fbBpp sz s

/-- WR_FB_BPP (40_register_bank.md R124). -/
def execWrFbBpp (sz : AccessSize) (data : Data) (s : State) : StepOutcome :=
  completeWrite (State.recomputePitch { s with fbBpp := shapeWrite data sz }).markDirty

/-- RD_FB_ENABLE (40_register_bank.md R125). -/
def execRdFbEnable (sz : AccessSize) (s : State) : StepOutcome :=
  completeRead s.fbEnable sz s

/-- WR_FB_ENABLE (40_register_bank.md R126). -/
def execWrFbEnable (sz : AccessSize) (data : Data) (s : State) : StepOutcome :=
  completeWrite (s.writeFbEnable (shapeWrite data sz))

/-- RD_FB_PITCH (40_register_bank.md R127). -/
def execRdFbPitch (sz : AccessSize) (s : State) : StepOutcome :=
  completeRead s.fbPitch sz s

/-- WR_FB_PITCH (40_register_bank.md R128). -/
def execWrFbPitch (sz : AccessSize) (data : Data) (s : State) : StepOutcome :=
  completeWrite (State.markDirty { s with fbPitch := shapeWrite data sz })

end Sys2Proof.Machine
end

