-- ==== Sys2Proof/Machine/FramebufferManager.lean ====
section
/-! DEFINITION. The FramebufferManager: set setup, the page-flip state machine, the vblank counter and their six
registers (41_framebuffer_manager.md). Sizes in checks are naturals. -/

namespace Sys2Proof.Machine

/-! ## Shared operations -/

/-- Bytes of a scanline, `w * (bpp div 8)`, as a natural (41_framebuffer_manager.md R150). -/
def pitchOf (w bpp : Word) : Nat := w.toNat * (bpp.toNat / 8)

/-- Bytes of a buffer, `pitch * h`, as a natural. -/
def bufferSize (w h bpp : Word) : Nat := pitchOf w bpp * h.toNat

/-- Program the mode registers with FB_ADDR 0 and mark dirty (41_framebuffer_manager.md R150, R151). -/
def State.programMode (s : State) (w h bpp : Word) : State :=
  { s with
    fbWidth := w
    fbHeight := h
    fbBpp := bpp
    fbPitch := BitVec.ofNat 32 (pitchOf w bpp)
    fbAddr := 0
    dirty := true }

/-- `setup_single` (41_framebuffer_manager.md R150). -/
def State.setupSingle (s : State) (w h bpp : Word) : ResultCode × State :=
  if bufferSize w h bpp > s.params.vramSize then (.outOfMemory, s)
  else (.ok, s.programMode w h bpp)

/-- `setup_multi` (41_framebuffer_manager.md R151). -/
def State.setupMulti (s : State) (count w h bpp : Word) : ResultCode × State :=
  if count.toNat > Config.maxFb ∨ count.toNat = 0 then (.invalidArgument, s)
  else if bufferSize w h bpp * count.toNat > s.params.vramSize then (.outOfMemory, s)
  else
    (.ok, State.programMode
      { s with fbCount := count, fbSize := bufferSize w h bpp, current := 0, next := 0, pending := false } w h bpp)

/-- `request_flip`, both transitions of the flip state machine in one step (41_framebuffer_manager.md R152). -/
def State.requestFlip (s : State) (t : Word) : ResultCode × State :=
  if s.fbCount.toNat ≤ t.toNat then (.invalidArgument, s)
  else if s.pending then (.busy, s)
  else
    (.ok,
      { s with
        next := t
        current := t
        pending := false
        vblankCount := s.vblankCount + 1
        dirty := true
        fbAddr := BitVec.ofNat 32 (t.toNat * s.fbSize) })

/-- Absorb a command's failure on the register port: a rejected write (60_exceptions.md R301). -/
def absorbFailure (off : Off) (r : ResultCode × State) : State :=
  match r.1 with
  | .ok => r.2
  | .invalidArgument | .outOfMemory | .busy | .timeout | .unsupported => r.2.logDiag .rejectedWrite off

/-- Byte offset of buffer i of the set, 0 beyond the count (41_framebuffer_manager.md R155). -/
def State.bufferOffset (s : State) (i : Nat) : Nat :=
  if i < s.fbCount.toNat then i * s.fbSize else 0

/-- The record of DESCRIBE (41_framebuffer_manager.md R155). -/
def State.setInfo (s : State) : SetInfo :=
  { count := s.fbCount
    current := s.current
    size := s.fbSize
    offsets := ⟨#[s.bufferOffset 0, s.bufferOffset 1, s.bufferOffset 2, s.bufferOffset 3], rfl⟩ }

/-! ## Commands -/

/-- SETUP_SINGLE (41_framebuffer_manager.md R150). -/
def execSetupSingle (w h bpp : Word) (s : State) : StepOutcome :=
  completeCommand (s.setupSingle w h bpp)

/-- SETUP_MULTI (41_framebuffer_manager.md R151). -/
def execSetupMulti (count w h bpp : Word) (s : State) : StepOutcome :=
  completeCommand (s.setupMulti count w h bpp)

/-- REQUEST_FLIP; the wait argument has no effect (41_framebuffer_manager.md R152). -/
def execRequestFlip (index _wait : Word) (s : State) : StepOutcome :=
  completeCommand (s.requestFlip index)

/-- WAIT_FOR_FLIP (41_framebuffer_manager.md R154). -/
def execWaitForFlip (_budget : Word) (s : State) : StepOutcome :=
  completeCommand (if s.pending then .timeout else .ok, s)

/-- DESCRIBE (41_framebuffer_manager.md R155). -/
def execDescribe (s : State) : StepOutcome :=
  .next (s.respond (.result .ok (.info s.setInfo)))

/-- GET_VRAM_SIZE (41_framebuffer_manager.md R156). -/
def execGetVramSize (s : State) : StepOutcome :=
  .next (s.respond (.result .ok (.size s.params.vramSize)))

/-- ENABLE_DISPLAY (41_framebuffer_manager.md R157). -/
def execEnableDisplay (b : Word) (s : State) : StepOutcome :=
  completeCommand (.ok, s.writeFbEnable (boolWord b))

/-! ## Registers -/

/-- RD_FB_COUNT (41_framebuffer_manager.md R170). -/
def execRdFbCount (sz : AccessSize) (s : State) : StepOutcome :=
  completeRead s.fbCount sz s

/-- WR_FB_COUNT (41_framebuffer_manager.md R171). -/
def execWrFbCount (sz : AccessSize) (data : Data) (s : State) : StepOutcome :=
  completeWrite (absorbFailure 0x03C (s.setupMulti (shapeWrite data sz) s.fbWidth s.fbHeight s.fbBpp))

/-- RD_FB_CURRENT (41_framebuffer_manager.md R172). -/
def execRdFbCurrent (sz : AccessSize) (s : State) : StepOutcome :=
  completeRead s.current sz s

/-- WR_FB_CURRENT (41_framebuffer_manager.md R173). -/
def execWrFbCurrent (_sz : AccessSize) (_data : Data) (s : State) : StepOutcome :=
  writeReadOnly 0x040 s

/-- RD_FB_NEXT (41_framebuffer_manager.md R174). -/
def execRdFbNext (sz : AccessSize) (s : State) : StepOutcome :=
  completeRead s.next sz s

/-- WR_FB_NEXT (41_framebuffer_manager.md R175). -/
def execWrFbNext (sz : AccessSize) (data : Data) (s : State) : StepOutcome :=
  let v := shapeWrite data sz
  completeWrite (if v.toNat < s.fbCount.toNat then { s with next := v } else s.logDiag .rejectedWrite 0x044)

/-- RD_PAGE_FLIP (41_framebuffer_manager.md R176). -/
def execRdPageFlip (_sz : AccessSize) (s : State) : StepOutcome :=
  readWriteOnly 0x048 s

/-- WR_PAGE_FLIP (41_framebuffer_manager.md R177). -/
def execWrPageFlip (sz : AccessSize) (data : Data) (s : State) : StepOutcome :=
  completeWrite (if shapeWrite data sz ≠ 0 then absorbFailure 0x048 (s.requestFlip s.next) else s)

/-- RD_FLIP_PENDING (41_framebuffer_manager.md R178). -/
def execRdFlipPending (sz : AccessSize) (s : State) : StepOutcome :=
  completeRead (flipPendingWord s.pending) sz s

/-- WR_FLIP_PENDING (41_framebuffer_manager.md R179). -/
def execWrFlipPending (_sz : AccessSize) (_data : Data) (s : State) : StepOutcome :=
  writeReadOnly 0x04C s

/-- RD_VBLANK_COUNT (41_framebuffer_manager.md R180). -/
def execRdVblankCount (sz : AccessSize) (s : State) : StepOutcome :=
  completeRead s.vblankCount sz s

/-- WR_VBLANK_COUNT (41_framebuffer_manager.md R181). -/
def execWrVblankCount (_sz : AccessSize) (_data : Data) (s : State) : StepOutcome :=
  writeReadOnly 0x050 s

/-! ## Descriptors, derived and not stored (10_state.md R50) -/

/-- A framebuffer descriptor. -/
structure Descriptor where
  width : Word
  height : Word
  bpp : Word
  pitch : Word
  vramOffset : Nat
  deriving DecidableEq, Repr

/-- The descriptor of buffer i of the set (10_state.md R50). -/
def State.setDescriptor (s : State) (i : Nat) : Descriptor :=
  { width := s.fbWidth, height := s.fbHeight, bpp := s.fbBpp, pitch := s.fbPitch, vramOffset := i * s.fbSize }

/-- The active descriptor, which the Compositor reads (10_state.md R50). -/
def State.activeDescriptor (s : State) : Descriptor :=
  { width := s.fbWidth, height := s.fbHeight, bpp := s.fbBpp, pitch := s.fbPitch, vramOffset := s.fbAddr.toNat }

end Sys2Proof.Machine
end

