-- ==== Sys2Proof/Machine/GuestInterface.lean ====
section
/-! DEFINITION. The GuestInterface: the two VRAM-port operations, and the routing of guest addresses
(44_guest_interface.md). -/

namespace Sys2Proof.Machine

/-- VRD (44_guest_interface.md R272, R274). -/
def execVrd (sz : AccessSize) (addr : Word) (s : State) : StepOutcome :=
  let v := if s.inVram addr.toNat (sizeBytes sz) then Memory.readLE s.vram addr.toNat (sizeBytes sz) else 0
  .next (s.respond (.data (BitVec.ofNat 64 v)))

/-- VWR (44_guest_interface.md R273, R274). -/
def execVwr (sz : AccessSize) (addr : Word) (data : Data) (s : State) : StepOutcome :=
  completeWrite
    (if s.inVram addr.toNat (sizeBytes sz) then
      State.markDirty
        { s with vram := Memory.writeLE s.vram addr.toNat (sizeBytes sz) (vramWriteValue data sz) }
    else s)

/-! ## Routing (44_guest_interface.md R270, 20_memory.md R61) -/

/-- Where a guest address lies. -/
inductive Region where
  | register (off : Off)
  | vram (addr : Word)
  deriving DecidableEq, Repr

/-- The region of a guest address, or none: an address in neither window is not a transaction of this block
(20_memory.md R61). The register window is looked at first (log entry 12). -/
def route (p : Params) (address : Nat) : Option Region :=
  if p.regBase ≤ address ∧ address < p.regBase + Config.regSpace then
    some (.register (BitVec.ofNat 12 (address - p.regBase)))
  else if p.vramBase ≤ address ∧ address < p.vramBase + p.vramSize then
    some (.vram (BitVec.ofNat 32 (address - p.vramBase)))
  else none

/-- `mmio_read(address, size)` as the operation it becomes. -/
def mmioRead (p : Params) (address : Nat) (sz : AccessSize) : Option Instr :=
  match route p address with
  | some (.register off) => some (regRead off sz)
  | some (.vram addr) => some (.vrd sz addr)
  | none => none

/-- `mmio_write(address, size, value)` as the operation it becomes. -/
def mmioWrite (p : Params) (address : Nat) (sz : AccessSize) (value : Data) : Option Instr :=
  match route p address with
  | some (.register off) => some (regWrite off sz value)
  | some (.vram addr) => some (.vwr sz addr value)
  | none => none

end Sys2Proof.Machine
end

