-- ==== Sys2Proof/Machine/Dispatch.lean ====
section
/-! DEFINITION. The meaning of each operation, one arm per constructor of Instr (30_encoding.md R87). -/

namespace Sys2Proof.Machine

def exec (i : Instr) (s : State) : Host.Outcome State Fault Refusal :=
  match i with
  | .rdDeviceId sz => Sys2Proof.Machine.execRdDeviceId sz s
  | .wrDeviceId sz data => Sys2Proof.Machine.execWrDeviceId sz data s
  | .rdStatus sz => Sys2Proof.Machine.execRdStatus sz s
  | .wrStatus sz data => Sys2Proof.Machine.execWrStatus sz data s
  | .rdControl sz => Sys2Proof.Machine.execRdControl sz s
  | .wrControl sz data => Sys2Proof.Machine.execWrControl sz data s
  | .rdFbAddr sz => Sys2Proof.Machine.execRdFbAddr sz s
  | .wrFbAddr sz data => Sys2Proof.Machine.execWrFbAddr sz data s
  | .rdFbWidth sz => Sys2Proof.Machine.execRdFbWidth sz s
  | .wrFbWidth sz data => Sys2Proof.Machine.execWrFbWidth sz data s
  | .rdFbHeight sz => Sys2Proof.Machine.execRdFbHeight sz s
  | .wrFbHeight sz data => Sys2Proof.Machine.execWrFbHeight sz data s
  | .rdFbBpp sz => Sys2Proof.Machine.execRdFbBpp sz s
  | .wrFbBpp sz data => Sys2Proof.Machine.execWrFbBpp sz data s
  | .rdFbEnable sz => Sys2Proof.Machine.execRdFbEnable sz s
  | .wrFbEnable sz data => Sys2Proof.Machine.execWrFbEnable sz data s
  | .rdFbPitch sz => Sys2Proof.Machine.execRdFbPitch sz s
  | .wrFbPitch sz data => Sys2Proof.Machine.execWrFbPitch sz data s
  | .rdCursorX sz => Sys2Proof.Machine.execRdCursorX sz s
  | .wrCursorX sz data => Sys2Proof.Machine.execWrCursorX sz data s
  | .rdCursorY sz => Sys2Proof.Machine.execRdCursorY sz s
  | .wrCursorY sz data => Sys2Proof.Machine.execWrCursorY sz data s
  | .rdCursorEnable sz => Sys2Proof.Machine.execRdCursorEnable sz s
  | .wrCursorEnable sz data => Sys2Proof.Machine.execWrCursorEnable sz data s
  | .rdCursorHotspotX sz => Sys2Proof.Machine.execRdCursorHotspotX sz s
  | .wrCursorHotspotX sz data => Sys2Proof.Machine.execWrCursorHotspotX sz data s
  | .rdCursorHotspotY sz => Sys2Proof.Machine.execRdCursorHotspotY sz s
  | .wrCursorHotspotY sz data => Sys2Proof.Machine.execWrCursorHotspotY sz data s
  | .rdCursorUpload sz => Sys2Proof.Machine.execRdCursorUpload sz s
  | .wrCursorUpload sz data => Sys2Proof.Machine.execWrCursorUpload sz data s
  | .rdFbCount sz => Sys2Proof.Machine.execRdFbCount sz s
  | .wrFbCount sz data => Sys2Proof.Machine.execWrFbCount sz data s
  | .rdFbCurrent sz => Sys2Proof.Machine.execRdFbCurrent sz s
  | .wrFbCurrent sz data => Sys2Proof.Machine.execWrFbCurrent sz data s
  | .rdFbNext sz => Sys2Proof.Machine.execRdFbNext sz s
  | .wrFbNext sz data => Sys2Proof.Machine.execWrFbNext sz data s
  | .rdPageFlip sz => Sys2Proof.Machine.execRdPageFlip sz s
  | .wrPageFlip sz data => Sys2Proof.Machine.execWrPageFlip sz data s
  | .rdFlipPending sz => Sys2Proof.Machine.execRdFlipPending sz s
  | .wrFlipPending sz data => Sys2Proof.Machine.execWrFlipPending sz data s
  | .rdVblankCount sz => Sys2Proof.Machine.execRdVblankCount sz s
  | .wrVblankCount sz data => Sys2Proof.Machine.execWrVblankCount sz data s
  | .rdUnmapped sz off => Sys2Proof.Machine.execRdUnmapped sz off s
  | .wrUnmapped sz off data => Sys2Proof.Machine.execWrUnmapped sz off data s
  | .vrd sz addr => Sys2Proof.Machine.execVrd sz addr s
  | .vwr sz addr data => Sys2Proof.Machine.execVwr sz addr data s
  | .setupSingle w h bpp => Sys2Proof.Machine.execSetupSingle w h bpp s
  | .setupMulti count w h bpp => Sys2Proof.Machine.execSetupMulti count w h bpp s
  | .requestFlip index wait => Sys2Proof.Machine.execRequestFlip index wait s
  | .waitForFlip budget => Sys2Proof.Machine.execWaitForFlip budget s
  | .describe => Sys2Proof.Machine.execDescribe s
  | .getVramSize => Sys2Proof.Machine.execGetVramSize s
  | .enableDisplay b => Sys2Proof.Machine.execEnableDisplay b s
  | .setPosition x y => Sys2Proof.Machine.execSetPosition x y s
  | .setHotspot x y => Sys2Proof.Machine.execSetHotspot x y s
  | .setEnabled b => Sys2Proof.Machine.execSetEnabled b s
  | .uploadPixel argb => Sys2Proof.Machine.execUploadPixel argb s
  | .uploadBulk count pixels => Sys2Proof.Machine.execUploadBulk count pixels s
  | .render => Sys2Proof.Machine.execRender s

end Sys2Proof.Machine
end

