-- ==== Sys2Proof/Machine/Schedule.lean ====
section
/-! DEFINITION. Which step comes next: the total order of operations and the inside of a render
(20_memory.md R70, 43_compositor.md R247). -/

namespace Sys2Proof.Machine

/-- Run the next offered operation. With none offered the block stays as it is: it takes no step of its own
(00_scope.md R4, log entry 2). -/
def operationStep (s : State) : StepOutcome :=
  match decode s.input with
  | .ok i rest => exec i { s with input := rest }
  | .bad .empty => .next s
  | .bad (.invalidHeader h) => .refused (.invalidHeader h)
  | .bad (.incomplete h) => .refused (.incompleteOperation h)

/-- The offered VRAM-port transaction, if the next offered operation is one: the only operation that may fall inside
a render (43_compositor.md R247). -/
def State.offeredVram (s : State) : Option (Instr × List Word) :=
  match decode s.input with
  | .ok i rest => if i.port = .vram then some (i, rest) else none
  | .bad _ => none

/-- One step inside a render (43_compositor.md R247): with no choice left the render runs to its end, otherwise the
next choice says whether an offered VRAM-port transaction goes first or the render goes on. -/
def insideRenderStep (job : RenderJob) (s : State) : StepOutcome :=
  match s.sched with
  | [] => .next (s.finishRender job)
  | .compositor pick :: cs => .next (State.renderAdvance { s with sched := cs } job pick)
  | .vram :: cs =>
    match s.offeredVram with
    | some (i, rest) => exec i { s with sched := cs, input := rest }
    | none => .next (State.renderAdvance { s with sched := cs } job 0)

/-- One step of the machine. -/
def machineStep (s : State) : StepOutcome :=
  match s.render with
  | some job => insideRenderStep job s
  | none => operationStep s

/-- The words offered next (log entry 13). -/
def State.offerNext (s : State) (ws : List Word) : State :=
  { s with input := ws ++ s.input, render := none }

end Sys2Proof.Machine
end

