-- ==== Sys2Proof/Machine/Step.lean ====
section
/-! DEFINITION. One step of the machine, and an operation placed where the step takes its next one. -/

namespace Sys2Proof.Machine

/-- One step: the next offered operation, or the next step of the render in progress. -/
def step (s : State) : Host.Outcome State Fault Refusal := machineStep s

/-- The state in which the next step runs the instruction whose first `nbits` bits are `w`: its words stand before
the offered ones, and no render is in progress (log entry 13). -/
def State.withFetchWord (s : State) (nbits w : Nat) : State := s.offerNext (tableWordsExact nbits w)

end Sys2Proof.Machine
end

