-- ==== Sys2Proof/Machine/Pseudo.lean ====
section
/-! DEFINITION. The pseudo-instructions and their expansions (30_encoding.md R93), and a whole program's words. -/

namespace Sys2Proof.Machine

/-- `WR32 <reg>, v` as an operand: the u32 zero-extended to DATA (30_encoding.md R90). -/
def dataOf (v : Word) : Data := v.setWidth 64

/-- `FLIP n`. -/
def pseudoFlip (n : Word) : List Instr := [.wrFbNext .s4 (dataOf n), .wrPageFlip .s4 1]

/-- `RESET_CTRL`. -/
def pseudoResetCtrl : List Instr := [.wrControl .s4 1]

/-- `SETMODE w, h, bpp`. -/
def pseudoSetMode (w h bpp : Word) : List Instr :=
  [.wrFbWidth .s4 (dataOf w), .wrFbHeight .s4 (dataOf h), .wrFbBpp .s4 (dataOf bpp)]

/-- `UPLOAD_IMAGE p[0..4095]`. -/
def pseudoUploadImage (p : Vector Word 4096) : List Instr :=
  p.toList.map fun v => .wrCursorUpload .s4 (dataOf v)

/-- `FILL32 a, n, v`. DESIGN CHOICE: where `a + 4*i` passes 2^32 - 1 the rule's natural is no ADDR (30_encoding.md R84)
and the spec spells no VWR; the model writes at `a + 4*i` modulo 2^32 (log entry 20). -/
def pseudoFill32 (a : Word) (n : Nat) (v : Word) : List Instr :=
  (List.range n).map fun i => .vwr .s4 (a + BitVec.ofNat 32 (4 * i)) (dataOf v)

/-- `CURSOR_AT x, y`. -/
def pseudoCursorAt (x y : Word) : List Instr := [.wrCursorX .s4 (dataOf x), .wrCursorY .s4 (dataOf y)]

/-- `wait_for_flip()` with no budget takes the default (00_scope.md R7, 90_conflicts.md C17). DESIGN CHOICE: the default
is a natural and the budget a u32, and the spec does not say what a default of 2^32 or more becomes; the model takes
it modulo 2^32. No result depends on it (93_implementation_defined.md U11; log entry 11). -/
def defaultWaitForFlip (p : Params) : Instr := .waitForFlip (BitVec.ofNat 32 p.waitFlipPolls)

/-- The words of a sequence of operations. -/
def encodeProgram (is : List Instr) : List Word := is.flatMap encode

end Sys2Proof.Machine
end

