-- ==== Sys2Proof/Safety.lean ====
section
/-! DEFINITION. What counts as a legal state and as a safe run: the invariants the spec gives the machine
(41_framebuffer_manager.md R160, 10_state.md R42 to R44, 40_register_bank.md R115, 43_compositor.md R247). -/

namespace Sys2Proof.Safety

open Sys2Proof.Machine

/-- The parameters keep their constraints (00_scope.md R7): VRAM_SIZE is in range and the VRAM window starts at a
page. That a page has some positive size is all that is said of it (log entry 12). -/
def ParamsLegal (p : Params) : Prop :=
  Config.minVramSize ≤ p.vramSize ∧ p.vramSize ≤ Config.maxVramSize ∧
  0 < p.pageSize ∧ p.vramBase % p.pageSize = 0

/-- FramebufferSet and FlipState (41_framebuffer_manager.md R160). -/
def FlipLegal (s : State) : Prop :=
  1 ≤ s.fbCount.toNat ∧ s.fbCount.toNat ≤ Config.maxFb ∧
  s.current.toNat < s.fbCount.toNat ∧ s.next.toNat < s.fbCount.toNat ∧
  s.fbSize * s.fbCount.toNat ≤ s.params.vramSize ∧ s.pending = false

/-- CONTROL bit 0 reads 0 (40_register_bank.md R114, R115). -/
def ControlLegal (s : State) : Prop := s.control.toNat % 2 = 0

/-- VRAM is in canonical form and lists no address outside VRAM. -/
def VramLegal (s : State) : Prop :=
  Memory.wf s.vram = true ∧ ∀ c ∈ s.vram, c.1 < s.params.vramSize

/-- A presented surface has w * h pixels (10_state.md R47). -/
def SurfaceLegal (f : Surface) : Prop :=
  match f.px with
  | .unspecified _ => True
  | .shown px => px.size = f.w.toNat * f.h.toNat

/-- A render in progress is a render the gate let go, and its snapshot is what the registers still hold: nothing on
the register or command port falls inside it (43_compositor.md R242, R247). -/
def RenderLegal (s : State) : Prop :=
  match s.render with
  | none => True
  | some job =>
    s.fbEnable ≠ 0 ∧ s.fbBpp = 32 ∧ s.dirty = true ∧
    job.w = s.fbWidth ∧ job.h = s.fbHeight ∧ job.pitch = s.fbPitch ∧ job.addr = s.fbAddr ∧
    job.cursor = s.cursorShot ∧ job.w ≠ 0 ∧ job.h ≠ 0 ∧
    4 * job.w.toNat ≤ job.pitch.toNat ∧
    job.addr.toNat + job.pitch.toNat * job.h.toNat ≤ s.params.vramSize ∧
    job.scratch.size = scratchBytes job.w job.h ∧
    job.todo.Nodup ∧ ∀ j ∈ job.todo, j < scratchBytes job.w job.h

/-- The invariant every step keeps. -/
structure Inv (s : State) : Prop where
  params : ParamsLegal s.params
  flip : FlipLegal s
  control : ControlLegal s
  vram : VramLegal s
  surface : SurfaceLegal s.surface
  render : RenderLegal s

/-- A run of k steps that is not refused. -/
def SafeRun (k : Nat) (s : State) : Prop := ∃ t, Sys2Proof.core.run k s = .next t

end Sys2Proof.Safety
end

