-- ==== Sys2Proof/Certificates/Slice0/Obligations.lean ====
section
/-! DEFINITION. The statements about the model. In every statement `out` is the model's record of what the operation
returns to its agent (log entry 5), `draws` numbers the free values (log entry 6), and the words of an operation
follow log entry 1. An equation with a next state states the result and the frame at once: every field the update
does not name, VRAM included, is as before. -/

namespace Sys2Proof.Claims

open Sys2Proof.Machine

/-! ## The shape of a row -/

/-- A register read row: its header `(SZ << 27) | off` with size `1 << SZ` spells the operation, which returns the
register's 32-bit value truncated to the size and changes nothing. -/
def readRow (off : Nat) (i : AccessSize → Instr) (x : State → Word) : Prop :=
  ∀ (sz : AccessSize) (n : Nat) (s : State) (ws : List Word), sizeBytes sz = 2 ^ n →
    decode (BitVec.ofNat 32 (n * 2 ^ 27 + off) :: ws) = .ok (i sz) ws ∧
    ∃ v : Data, v.toNat = (x s).toNat % 2 ^ (8 * sizeBytes sz) ∧
      exec (i sz) s = .next { s with out := s.out ++ [.data v] }

/-- A header spells an operation with a DATA operand: for every DATA some operand words after it, and nothing but
that operation whatever words follow. How DATA lies in words is the model's choice (log entry 1) and is not said here. -/
def writeHeader (h : Word) (i : Data → Instr) : Prop :=
  (∀ d : Data, ∃ ops : List Word, ∀ ws : List Word, decode (h :: (ops ++ ws)) = .ok (i d) ws) ∧
  ∀ (ws : List Word) (j : Instr) (rest : List Word), decode (h :: ws) = .ok j rest → ∃ d, j = i d

/-- A register write row: its header `0x20000000 | (SZ << 27) | off` spells the operation, whose effect is `eff v`
for v the low `min(8*size, 32)` bits of DATA, zero-extended. -/
def writeRow (off : Nat) (i : AccessSize → Data → Instr) (eff : Word → State → State) : Prop :=
  ∀ (sz : AccessSize) (n : Nat), sizeBytes sz = 2 ^ n →
    writeHeader (BitVec.ofNat 32 (0x20000000 + n * 2 ^ 27 + off)) (i sz) ∧
    ∀ (d : Data) (v : Word) (s : State), v.toNat = d.toNat % 2 ^ min (8 * sizeBytes sz) 32 →
      exec (i sz d) s = .next ((eff v s).respond .done)

/-- The numbers of the result codes (60_exceptions.md R303). -/
def codeNumbers : List (ResultCode × Nat) :=
  [(.ok, 0), (.invalidArgument, 1), (.outOfMemory, 2), (.busy, 3), (.timeout, 4), (.unsupported, 5)]

/-- A command row: the header `0x80000000 | cmd` and the arguments spell the operation. -/
def commandWords (cmd : Nat) (args : List Word) (i : Instr) : Prop :=
  ∀ ws : List Word, decode (BitVec.ofNat 32 (0x80000000 + cmd) :: (args ++ ws)) = .ok i ws

/-- Append an event to the diagnostic log. -/
def logged (kind : DiagKind) (off : Off) (s : State) : State := { s with diag := s.diag ++ [⟨kind, off⟩] }

/-- Return a code and no record. `State.respond` appends a response to `out` and changes nothing else. -/
def returns (code : ResultCode) (s : State) : Host.Outcome State Fault Refusal :=
  .next (s.respond (.result code .none))

/-! ## Effects in the words of the rules -/

/-- FB_ENABLE (40_register_bank.md R126): the pixels of the resized surface are a draw. -/
def fbEnableWritten (v : Word) (s : State) : State :=
  if s.fbEnable = 0 ∧ v ≠ 0 then
    { s with
      fbEnable := v, dirty := true, draws := s.draws + 1
      surface := { w := s.fbWidth, h := s.fbHeight, px := .unspecified s.draws } }
  else { s with fbEnable := v }

/-- The state after a successful setup_multi (41_framebuffer_manager.md R151). -/
def multiSet (count w h bpp : Word) (s : State) : State :=
  { s with
    fbCount := count, fbSize := w.toNat * (bpp.toNat / 8) * h.toNat, current := 0, next := 0, pending := false
    fbWidth := w, fbHeight := h, fbBpp := bpp, fbPitch := BitVec.ofNat 32 (w.toNat * (bpp.toNat / 8)), fbAddr := 0
    dirty := true }

/-- The state after a successful request_flip (41_framebuffer_manager.md R152). -/
def flipped (t : Word) (s : State) : State :=
  { s with
    next := t, current := t, pending := false, vblankCount := BitVec.ofNat 32 (s.vblankCount.toNat + 1)
    dirty := true, fbAddr := BitVec.ofNat 32 (t.toNat * s.fbSize) }

/-- The state after upload_pixel (42_cursor_overlay.md R204). -/
def uploaded (p : Word) (s : State) : State :=
  if s.uploadCursor.val = 4095 then
    { s with
      bitmap := s.bitmap.set s.uploadCursor.val p s.uploadCursor.isLt, uploadCursor := 0, cursorLoaded := true
      dirty := true }
  else
    { s with
      bitmap := s.bitmap.set s.uploadCursor.val p s.uploadCursor.isLt, uploadCursor := s.uploadCursor + 1 }

/-- Bits hi..hi-7 of a pixel as a number: a channel of 43_compositor.md's preamble. -/
def channel (p : Word) (lo : Nat) : Nat := (p.extractLsb' lo 8).toNat

/-- `blend(fg, bg, a)` in the words of 43_compositor.md R245. -/
def blended (fg bg : Word) (a : Nat) : Word :=
  let c (lo : Nat) : BitVec 8 := BitVec.ofNat 8 ((channel fg lo * a + channel bg lo * (255 - a)) / 255)
  (0xFF#8 ++ c 16) ++ (c 8 ++ c 0)

/-- A cursor pixel over the background (43_compositor.md R244). -/
def composed (p bg : Word) : Word :=
  if channel p 24 = 0 then bg else if channel p 24 = 255 then p else blended p bg (channel p 24)

/-- The background pixel (x, y): the little-endian word at A + y*P + 4*x (43_compositor.md R243). -/
def backgroundPixel (s : State) (x y : Nat) : Word :=
  BitVec.ofNat 32 (Memory.readLE s.vram (s.fbAddr.toNat + y * s.fbPitch.toNat + 4 * x) 4)

/-- The cursor over a background pixel at (x, y): the cursor pixel (cx, cy) with x = X - HX + cx and y = Y - HY + cy,
if there is one and the cursor is enabled (43_compositor.md R244). -/
def underCursor (cur : CursorShot) (x y : Nat) (bg : Word) : Word :=
  let cx : Int := x - (cur.x - cur.hx)
  let cy : Int := y - (cur.y - cur.hy)
  if cur.enable ≠ 0 ∧ 0 ≤ cx ∧ cx < 64 ∧ 0 ≤ cy ∧ cy < 64 then
    composed (cur.bitmap.toArray.getD (cy.toNat * 64 + cx.toNat) 0) bg
  else bg

/-- What a render shows at (x, y): the background, and over it the cursor (43_compositor.md R243, R244). -/
def screenPixel (s : State) (x y : Nat) : Word :=
  underCursor
    { enable := s.cursorEnable, x := s.cursorX.toInt, y := s.cursorY.toInt, hx := s.hotspotX.toInt
      hy := s.hotspotY.toInt, bitmap := s.bitmap }
    x y (backgroundPixel s x y)

/-- Byte k of scratch pixel (x, y) when a render ends: the byte read for it, or, if it is still to be read, the byte
VRAM holds at A + y*P + 4*x + k (43_compositor.md R243, R247). -/
def lastByte (s : State) (job : RenderJob) (x y k : Nat) : Byte :=
  let j := 4 * (y * job.w.toNat + x) + k
  if j ∈ job.todo then Memory.byte s.vram (job.addr.toNat + y * job.pitch.toNat + 4 * x + k)
  else job.scratch.getD j 0

/-- Scratch pixel (x, y) when a render ends, little-endian (43_compositor.md R243). -/
def lastPixel (s : State) (job : RenderJob) (x y : Nat) : Word :=
  (lastByte s job x y 3 ++ lastByte s job x y 2) ++ (lastByte s job x y 1 ++ lastByte s job x y 0)

/-- The gate of 43_compositor.md R241 lets a render go. -/
structure GateOpen (s : State) : Prop where
  dirty : s.dirty = true
  enabled : s.fbEnable ≠ 0
  bpp : s.fbBpp = 32
  width : s.fbWidth ≠ 0
  height : s.fbHeight ≠ 0
  pitch : 4 * s.fbWidth.toNat ≤ s.fbPitch.toNat
  region : s.fbAddr.toNat + s.fbPitch.toNat * s.fbHeight.toNat ≤ s.params.vramSize

/-! ## Classes of operations -/

/-- The reads of the register port and the VRAM port. -/
def isRead : Instr → Bool
  | .rdDeviceId _ | .rdStatus _ | .rdControl _ | .rdFbAddr _ | .rdFbWidth _ | .rdFbHeight _ | .rdFbBpp _
  | .rdFbEnable _ | .rdFbPitch _ | .rdCursorX _ | .rdCursorY _ | .rdCursorEnable _ | .rdCursorHotspotX _
  | .rdCursorHotspotY _ | .rdCursorUpload _ | .rdFbCount _ | .rdFbCurrent _ | .rdFbNext _ | .rdPageFlip _
  | .rdFlipPending _ | .rdVblankCount _ | .rdUnmapped _ _ | .vrd _ _ => true
  | _ => false

/-- An operation of the register port or the VRAM port. -/
def isGuest (i : Instr) : Bool := i.port = .register || i.port = .vram

/-- The next step is a successful request_flip, by command or by a PAGE_FLIP write (41_framebuffer_manager.md R159). -/
def flipSucceeds (s : State) : Bool :=
  s.render.isNone &&
    match decode s.input with
    | .ok (.requestFlip t _) _ => decide (t.toNat < s.fbCount.toNat) && !s.pending
    | .ok (.wrPageFlip sz d) _ =>
      decide (d.toNat % 2 ^ min (8 * sizeBytes sz) 32 ≠ 0) && decide (s.next.toNat < s.fbCount.toNat) && !s.pending
    | _ => false

/-- How many of the next k steps are successful flips. -/
def flips : Nat → State → Nat
  | 0, _ => 0
  | k + 1, s =>
    match step s with
    | .next t => (if flipSucceeds s then 1 else 0) + flips k t
    | _ => 0

/-- A choice that is a step of the render. -/
def isCompositor : Choice → Bool
  | .compositor _ => true
  | .vram => false

end Sys2Proof.Claims

open Sys2Proof Sys2Proof.Machine Sys2Proof.Claims Sys2Proof.Safety

/-! ## Attach -/

/-- Attach leaves every field of 10_state.md R20 at its attach value. The surface's pixels are draw 0, the model's
numbering (log entry 7). -/
def Obligations.ResetHoldsAttachValues : Prop :=
  let s := State.reset
  (s.control = 0 ∧ s.fbAddr = 0 ∧ s.fbWidth = 800 ∧ s.fbHeight = 600 ∧ s.fbBpp = 32 ∧ s.fbEnable = 0 ∧
    s.fbPitch = 3200) ∧
  (s.cursorX = 0 ∧ s.cursorY = 0 ∧ s.cursorEnable = 0 ∧ s.hotspotX = 0 ∧ s.hotspotY = 0) ∧
  (s.fbCount = 1 ∧ s.fbSize = 1920000 ∧ s.current = 0 ∧ s.next = 0 ∧ s.pending = false ∧ s.vblankCount = 0) ∧
  (∀ i : Fin 4096, s.bitmap[i] = Config.defaultCursorPixel i) ∧ s.uploadCursor.val = 0 ∧ s.cursorLoaded = false ∧
  (∀ a, Memory.byte s.vram a = Config.vramInit a) ∧ s.dirty = false ∧
  s.surface.w = 800 ∧ s.surface.h = 600 ∧ s.surface.px = .unspecified 0 ∧ s.diag = []

/-- The attach state meets the invariant. -/
def Obligations.ResetMeetsInvariant : Prop := Inv State.reset

/-! ## Encoding -/

/-- Decode of encode, for every well-formed operation and whatever words follow. -/
def Obligations.DecodeOfEncodeIsTheOperation : Prop :=
  ∀ i : Instr, i.wf = true → ∀ ws : List Word, decode (encode i ++ ws) = .ok i ws

/-- Encode of decode: the words decoded are the words the operation has, and the operation is well-formed, so no
bit of a stream has two meanings. -/
def Obligations.EncodeOfDecodeIsTheWords : Prop :=
  ∀ (ws : List Word) (i : Instr) (rest : List Word), decode ws = .ok i rest →
    i.wf = true ∧ encode i ++ rest = ws

/-- A header is refused exactly for the reasons of 30_encoding.md R88, and a step then refuses it. -/
def Obligations.InvalidHeadersAreRefused : Prop :=
  ∀ (h : Word) (ws : List Word),
    (let port := h.extractLsb' 30 2
     let w := h.extractLsb' 29 1
     let sz := h.extractLsb' 27 2
     let off := h.extractLsb' 0 12
     (h.extractLsb' 12 15 ≠ 0 ∨ (port = 1 ∧ off ≠ 0) ∨ ((port = 2 ∨ port = 3) ∧ (w ≠ 0 ∨ sz ≠ 0)) ∨
       (port = 2 ∧ (h.extractLsb' 8 4 ≠ 0 ∨ (h.extractLsb' 0 8).toNat = 0 ∨ 12 < (h.extractLsb' 0 8).toNat)) ∨
       (port = 3 ∧ off ≠ 0)) ↔ decode (h :: ws) = .bad (.invalidHeader h)) ∧
    ∀ s : State, s.render = none → s.input = h :: ws → decode (h :: ws) = .bad (.invalidHeader h) →
      step s = .refused (.invalidHeader h)

/-- Words written out from 30_encoding.md R91, R90 and 95_test_vectors.md P1, P2. -/
def Obligations.SpecWordsDecode : Prop :=
  decode [0x30000010, 0x400, 0] = .ok (.wrFbWidth .s4 0x400) [] ∧
  decode [0x10000040] = .ok (.rdFbCurrent .s4) [] ∧
  decode [0x70000000, 0x001D4C00, 0xFF00FF00, 0] = .ok (.vwr .s4 0x001D4C00 0xFF00FF00) [] ∧
  decode [0x80000001, 4, 2, 32] = .ok (.setupSingle 4 2 32) [] ∧
  decode [0x80000008, 1, 0] = .ok (.setPosition 1 0) [] ∧
  decode [0xC0000000] = .ok .render []

/-! ## Steps -/

/-- A step runs the decoded operation: with no render in progress, the operation offered next, its words taken from
the stream. With nothing offered the block stays as it is. -/
def Obligations.StepRunsTheDecodedOperation : Prop :=
  ∀ s : State, s.render = none →
    (∀ i rest, decode s.input = .ok i rest → step s = exec i { s with input := rest }) ∧
    (s.input = [] → step s = .next s)

/-- Inside a render a step changes no register, no set or flip state, no cursor state and no diagnostic, and the
only operation it runs is a VRAM-port transaction. -/
def Obligations.InsideARenderOnlyVramTransactionsRun : Prop :=
  ∀ (s : State) (job : RenderJob), s.render = some job → ∃ t, step s = .next t ∧
    t = { s with
      vram := t.vram, dirty := t.dirty, surface := t.surface, render := t.render, input := t.input
      sched := t.sched, out := t.out } ∧
    (t.input ≠ s.input ∨ t.vram ≠ s.vram →
      ∃ i cs, i.port = .vram ∧ s.sched = .vram :: cs ∧ decode s.input = .ok i t.input ∧
        exec i { s with sched := cs, input := t.input } = .next t)

/-- Each byte of a render is read at its own instant: a byte-read step takes one byte j off the list of bytes still
to be read, whichever the choice picks, and stores the byte VRAM then holds at A + y*P + 4*x + k. -/
def Obligations.EachByteIsReadAtItsOwnInstant : Prop :=
  ∀ (s : State) (job : RenderJob) (pick : Nat) (cs : List Choice), s.render = some job → job.todo ≠ [] →
    s.sched = .compositor pick :: cs → job.scratch.size = 4 * (job.w.toNat * job.h.toNat) →
    (∀ j ∈ job.todo, j < 4 * (job.w.toNat * job.h.toNat)) →
    ∃ job', step s = .next { s with sched := cs, render := some job' } ∧
      ∃ x y k, x < job.w.toNat ∧ y < job.h.toNat ∧ k < 4 ∧
        (∃ l r, job.todo = l ++ (4 * (y * job.w.toNat + x) + k) :: r ∧ l.length = pick % job.todo.length ∧
          job' = { job with todo := l ++ r, scratch := job'.scratch }) ∧
        job'.scratch.size = job.scratch.size ∧
        job'.scratch[4 * (y * job.w.toNat + x) + k]? =
          some (Memory.byte s.vram (job.addr.toNat + y * job.pitch.toNat + 4 * x + k)) ∧
        ∀ j, j ≠ 4 * (y * job.w.toNat + x) + k → job'.scratch[j]? = job.scratch[j]?

/-! ## Register reads -/

/-- The reads of the RegisterBank's stored registers and of DEVICE_ID (40_register_bank.md). -/
def Obligations.DisplayRegisterReads : Prop :=
  readRow 0x000 .rdDeviceId (·.params.deviceId) ∧ readRow 0x008 .rdControl (·.control) ∧
  readRow 0x00C .rdFbAddr (·.fbAddr) ∧ readRow 0x010 .rdFbWidth (·.fbWidth) ∧
  readRow 0x014 .rdFbHeight (·.fbHeight) ∧ readRow 0x018 .rdFbBpp (·.fbBpp) ∧
  readRow 0x01C .rdFbEnable (·.fbEnable) ∧ readRow 0x020 .rdFbPitch (·.fbPitch)

/-- The reads of the FramebufferManager's registers (41_framebuffer_manager.md). -/
def Obligations.SetRegisterReads : Prop :=
  readRow 0x03C .rdFbCount (·.fbCount) ∧ readRow 0x040 .rdFbCurrent (·.current) ∧
  readRow 0x044 .rdFbNext (·.next) ∧ readRow 0x04C .rdFlipPending (fun s => if s.pending then 1 else 0) ∧
  readRow 0x050 .rdVblankCount (·.vblankCount)

/-- The reads of the CursorOverlay's registers (42_cursor_overlay.md). -/
def Obligations.CursorRegisterReads : Prop :=
  readRow 0x024 .rdCursorX (·.cursorX) ∧ readRow 0x028 .rdCursorY (·.cursorY) ∧
  readRow 0x02C .rdCursorEnable (·.cursorEnable) ∧ readRow 0x030 .rdCursorHotspotX (·.hotspotX) ∧
  readRow 0x034 .rdCursorHotspotY (·.hotspotY)

/-- RD_STATUS (40_register_bank.md R112): READY is 1, bit 1 is this read's draw, bit 2 is the loaded bit, and the other
bits are 0. -/
def Obligations.StatusRead : Prop :=
  ∀ (sz : AccessSize) (n : Nat) (s : State) (ws : List Word), sizeBytes sz = 2 ^ n →
    decode (BitVec.ofNat 32 (n * 2 ^ 27 + 0x004) :: ws) = .ok (.rdStatus sz) ws ∧
    ∃ v : Data, exec (.rdStatus sz) s = .next { s with out := s.out ++ [.data v], draws := s.draws + 1 } ∧
      v.toNat = 1 + 2 * (Config.freeStatusBit s.draws).toNat + (if s.cursorLoaded then 4 else 0)

/-- Reads of the write-only registers (40_register_bank.md R104): 0 and a diagnostic. -/
def Obligations.WriteOnlyRegisterReads : Prop :=
  ∀ (sz : AccessSize) (n : Nat) (s : State) (ws : List Word), sizeBytes sz = 2 ^ n →
    (decode (BitVec.ofNat 32 (n * 2 ^ 27 + 0x038) :: ws) = .ok (.rdCursorUpload sz) ws ∧
      exec (.rdCursorUpload sz) s = .next ((logged .writeOnlyRead 0x038 s).respond (.data 0))) ∧
    (decode (BitVec.ofNat 32 (n * 2 ^ 27 + 0x048) :: ws) = .ok (.rdPageFlip sz) ws ∧
      exec (.rdPageFlip sz) s = .next ((logged .writeOnlyRead 0x048 s).respond (.data 0)))

/-- Accesses at an offset that is not mapped (40_register_bank.md R105, R106, R107): a read returns 0 and a write is
ignored; the diagnostic says whether the access runs past the 4096 bytes. -/
def Obligations.UnmappedAccesses : Prop :=
  ∀ (sz : AccessSize) (n : Nat) (off : Off) (d : Data) (s : State) (ws : List Word), sizeBytes sz = 2 ^ n →
    off.toNat ∉ mappedOffsets →
    (decode (BitVec.ofNat 32 (n * 2 ^ 27 + off.toNat) :: ws) = .ok (.rdUnmapped sz off) ws ∧
      writeHeader (BitVec.ofNat 32 (0x20000000 + n * 2 ^ 27 + off.toNat)) (.wrUnmapped sz off)) ∧
    (off.toNat + sizeBytes sz ≤ 4096 →
      exec (.rdUnmapped sz off) s = .next ((logged .unmappedRead off s).respond (.data 0)) ∧
      exec (.wrUnmapped sz off d) s = .next ((logged .unmappedWrite off s).respond .done)) ∧
    (off.toNat + sizeBytes sz > 4096 → off.toNat ≥ 0xFF9 ∧
      exec (.rdUnmapped sz off) s = .next ((logged .outOfRange off s).respond (.data 0)) ∧
      exec (.wrUnmapped sz off d) s = .next ((logged .outOfRange off s).respond .done))

/-! ## Register writes -/

/-- Writes of the read-only registers (40_register_bank.md R103): no state change but a diagnostic. -/
def Obligations.ReadOnlyRegisterWrites : Prop :=
  writeRow 0x000 .wrDeviceId (fun _ => logged .readOnlyWrite 0x000) ∧
  writeRow 0x004 .wrStatus (fun _ => logged .readOnlyWrite 0x004) ∧
  writeRow 0x040 .wrFbCurrent (fun _ => logged .readOnlyWrite 0x040) ∧
  writeRow 0x04C .wrFlipPending (fun _ => logged .readOnlyWrite 0x04C) ∧
  writeRow 0x050 .wrVblankCount (fun _ => logged .readOnlyWrite 0x050)

/-- CONTROL (40_register_bank.md R115, R116): with bit 0 set the write stores v AND NOT 0x3 and resets the mode. -/
def Obligations.ControlWrite : Prop :=
  writeRow 0x008 .wrControl fun v s =>
    if v.toNat % 2 = 1 then
      { s with
        control := v &&& 0xFFFFFFFC, fbWidth := 800, fbHeight := 600, fbBpp := 32, fbPitch := 3200, fbEnable := 0
        dirty := true }
    else { s with control := v }

/-- The registers whose write stores and marks dirty (40_register_bank.md R118, R122, R128; 42_cursor_overlay.md
R211, R213, R215). -/
def Obligations.StoringAndMarkingWrites : Prop :=
  writeRow 0x00C .wrFbAddr (fun v s => { s with fbAddr := v, dirty := true }) ∧
  writeRow 0x014 .wrFbHeight (fun v s => { s with fbHeight := v, dirty := true }) ∧
  writeRow 0x020 .wrFbPitch (fun v s => { s with fbPitch := v, dirty := true }) ∧
  writeRow 0x024 .wrCursorX (fun v s => { s with cursorX := v, dirty := true }) ∧
  writeRow 0x028 .wrCursorY (fun v s => { s with cursorY := v, dirty := true }) ∧
  writeRow 0x02C .wrCursorEnable (fun v s => { s with cursorEnable := v, dirty := true })

/-- FB_WIDTH and FB_BPP recompute the pitch at every write (40_register_bank.md R120, R124). -/
def Obligations.PitchRecomputingWrites : Prop :=
  writeRow 0x010 .wrFbWidth (fun v s =>
    { s with fbWidth := v, fbPitch := BitVec.ofNat 32 (v.toNat * (s.fbBpp.toNat / 8)), dirty := true }) ∧
  writeRow 0x018 .wrFbBpp (fun v s =>
    { s with fbBpp := v, fbPitch := BitVec.ofNat 32 (s.fbWidth.toNat * (v.toNat / 8)), dirty := true })

/-- Hotspot writes store and leave dirty as it is (42_cursor_overlay.md R217, R219). -/
def Obligations.HotspotWrites : Prop :=
  writeRow 0x030 .wrCursorHotspotX (fun v s => { s with hotspotX := v }) ∧
  writeRow 0x034 .wrCursorHotspotY (fun v s => { s with hotspotY := v })

/-- FB_ENABLE (40_register_bank.md R126) and ENABLE_DISPLAY, the same effect with 1 or 0
(41_framebuffer_manager.md R157). -/
def Obligations.OutputEnableWrites : Prop :=
  writeRow 0x01C .wrFbEnable fbEnableWritten ∧
  ∀ (b : Word) (s : State), commandWords 0x07 [b] (.enableDisplay b) ∧
    exec (.enableDisplay b) s = returns .ok (fbEnableWritten (if b = 0 then 0 else 1) s)

/-- FB_COUNT (41_framebuffer_manager.md R171): setup_multi with the mode registers, or absorbed. -/
def Obligations.FbCountWrite : Prop :=
  writeRow 0x03C .wrFbCount fun v s =>
    if 1 ≤ v.toNat ∧ v.toNat ≤ 4 ∧
        s.fbWidth.toNat * (s.fbBpp.toNat / 8) * s.fbHeight.toNat * v.toNat ≤ s.params.vramSize then
      multiSet v s.fbWidth s.fbHeight s.fbBpp s
    else logged .rejectedWrite 0x03C s

/-- FB_NEXT (41_framebuffer_manager.md R175). -/
def Obligations.FbNextWrite : Prop :=
  writeRow 0x044 .wrFbNext fun v s =>
    if v.toNat < s.fbCount.toNat then { s with next := v } else logged .rejectedWrite 0x044 s

/-- PAGE_FLIP (41_framebuffer_manager.md R177): a nonzero write requests a flip to FB_NEXT. -/
def Obligations.PageFlipWrite : Prop :=
  writeRow 0x048 .wrPageFlip fun v s =>
    if v = 0 then s
    else if s.next.toNat < s.fbCount.toNat ∧ s.pending = false then flipped s.next s
    else logged .rejectedWrite 0x048 s

/-- CURSOR_UPLOAD and UPLOAD_PIXEL (42_cursor_overlay.md R204, R221). -/
def Obligations.PixelUploads : Prop :=
  writeRow 0x038 .wrCursorUpload uploaded ∧
  ∀ (p : Word) (s : State), commandWords 0x0B [p] (.uploadPixel p) ∧
    exec (.uploadPixel p) s = returns .ok (uploaded p s)

/-! ## Commands -/

/-- SETUP_SINGLE (41_framebuffer_manager.md R150). -/
def Obligations.SetupSingle : Prop :=
  ∀ (w h bpp : Word) (s : State), commandWords 0x01 [w, h, bpp] (.setupSingle w h bpp) ∧
    exec (.setupSingle w h bpp) s =
      if w.toNat * (bpp.toNat / 8) * h.toNat > s.params.vramSize then returns .outOfMemory s
      else
        returns .ok
          { s with
            fbWidth := w, fbHeight := h, fbBpp := bpp, fbPitch := BitVec.ofNat 32 (w.toNat * (bpp.toNat / 8))
            fbAddr := 0, dirty := true }

/-- SETUP_MULTI, its checks in their order (41_framebuffer_manager.md R151). -/
def Obligations.SetupMulti : Prop :=
  ∀ (count w h bpp : Word) (s : State), commandWords 0x02 [count, w, h, bpp] (.setupMulti count w h bpp) ∧
    exec (.setupMulti count w h bpp) s =
      if count.toNat > 4 ∨ count.toNat = 0 then returns .invalidArgument s
      else if w.toNat * (bpp.toNat / 8) * h.toNat * count.toNat > s.params.vramSize then returns .outOfMemory s
      else returns .ok (multiSet count w h bpp s)

/-- REQUEST_FLIP, its checks in their order; the wait argument has no effect, and in a legal state the new FB_ADDR
is exact (41_framebuffer_manager.md R152). -/
def Obligations.RequestFlip : Prop :=
  ∀ (t wait : Word) (s : State), commandWords 0x03 [t, wait] (.requestFlip t wait) ∧
    (exec (.requestFlip t wait) s =
      if t.toNat ≥ s.fbCount.toNat then returns .invalidArgument s
      else if s.pending then returns .busy s
      else returns .ok (flipped t s)) ∧
    (Inv s → t.toNat < s.fbCount.toNat → (flipped t s).fbAddr.toNat = t.toNat * s.fbSize)

/-- WAIT_FOR_FLIP, DESCRIBE and GET_VRAM_SIZE (41_framebuffer_manager.md R154, R155, R156). -/
def Obligations.QueryCommands : Prop :=
  ∀ (budget : Word) (s : State),
    (commandWords 0x04 [budget] (.waitForFlip budget) ∧
      exec (.waitForFlip budget) s = if s.pending then returns .timeout s else returns .ok s) ∧
    (commandWords 0x05 [] .describe ∧
      ∃ info : SetInfo,
        exec .describe s = .next { s with out := s.out ++ [.result .ok (.info info)] } ∧
        info.count = s.fbCount ∧ info.current = s.current ∧ info.size = s.fbSize ∧
        ∀ i : Fin 4, info.offsets[i] = if i.val < s.fbCount.toNat then i.val * s.fbSize else 0) ∧
    (commandWords 0x06 [] .getVramSize ∧
      exec .getVramSize s = .next { s with out := s.out ++ [.result .ok (.size s.params.vramSize)] })

/-- SET_POSITION, SET_HOTSPOT and SET_ENABLED (42_cursor_overlay.md R200, R201, R202). -/
def Obligations.CursorCommands : Prop :=
  ∀ (x y b : Word) (s : State),
    (commandWords 0x08 [x, y] (.setPosition x y) ∧
      exec (.setPosition x y) s = returns .ok { s with cursorX := x, cursorY := y, dirty := true }) ∧
    (commandWords 0x09 [x, y] (.setHotspot x y) ∧
      exec (.setHotspot x y) s = returns .ok { s with hotspotX := x, hotspotY := y }) ∧
    (commandWords 0x0A [b] (.setEnabled b) ∧
      exec (.setEnabled b) s =
        returns .ok { s with cursorEnable := if b = 0 then 0 else 1, dirty := true })

/-- UPLOAD_BULK (42_cursor_overlay.md R205). That the words of a list of 2^32 pixels or more do not exist is the
model's layout (log entry 1). -/
def Obligations.UploadBulk : Prop :=
  ∀ (count : Word) (pixels : List Word) (s : State),
    (pixels.length < 2 ^ 32 →
      ∃ ops : List Word, commandWords 0x0C ops (.uploadBulk count pixels)) ∧
    exec (.uploadBulk count pixels) s =
      if count.toNat > 4096 ∨ count.toNat > pixels.length then returns .invalidArgument s
      else returns .ok ((pixels.take count.toNat).foldl (fun u p => uploaded p u) s)

/-- A bulk of a whole image from any upload cursor (42_cursor_overlay.md R205, corner cases): the pixels go to the
slots from the cursor on, around the end, the cursor comes back to where it was, and the image counts as loaded. -/
def Obligations.WholeImageUploadFromAnyCursor : Prop :=
  ∀ (pixels : List Word) (s : State), pixels.length = 4096 →
    ∃ t, exec (.uploadBulk 4096 pixels) s = .next t ∧ t.uploadCursor = s.uploadCursor ∧ t.cursorLoaded = true ∧
      t.dirty = true ∧
      ∀ j, j < 4096 → t.bitmap.toArray[(s.uploadCursor.val + j) % 4096]? = pixels[j]?

/-- An upload that completes no image replaces exactly the slots it writes and sets neither dirty nor the loaded bit
(42_cursor_overlay.md R204, R207). -/
def Obligations.PartialUploadKeepsStalePixels : Prop :=
  ∀ (count : Word) (pixels : List Word) (s : State), pixels.length = count.toNat →
    s.uploadCursor.val + count.toNat < 4096 →
    ∃ t, exec (.uploadBulk count pixels) s = .next t ∧ t.uploadCursor.val = s.uploadCursor.val + count.toNat ∧
      t = { s with bitmap := t.bitmap, uploadCursor := t.uploadCursor, out := s.out ++ [.result .ok .none] } ∧
      (∀ j, j < count.toNat → t.bitmap.toArray[s.uploadCursor.val + j]? = pixels[j]?) ∧
      ∀ k, k < s.uploadCursor.val ∨ s.uploadCursor.val + count.toNat ≤ k →
        t.bitmap.toArray[k]? = s.bitmap.toArray[k]?

/-! ## VRAM -/

/-- VRD (44_guest_interface.md R272): byte i of the result is the byte at ADDR + i, and past the end it is 0. -/
def Obligations.VramRead : Prop :=
  ∀ (sz : AccessSize) (n : Nat) (addr : Word) (s : State) (ws : List Word), sizeBytes sz = 2 ^ n →
    decode (BitVec.ofNat 32 (0x40000000 + n * 2 ^ 27) :: addr :: ws) = .ok (.vrd sz addr) ws ∧
    ∃ v : Data, exec (.vrd sz addr) s = .next { s with out := s.out ++ [.data v] } ∧
      (addr.toNat + sizeBytes sz > s.params.vramSize → v = 0) ∧
      (addr.toNat + sizeBytes sz ≤ s.params.vramSize → v.toNat < 256 ^ sizeBytes sz ∧
        ∀ i, i < sizeBytes sz → v.toNat / 256 ^ i % 256 = (Memory.byte s.vram (addr.toNat + i)).toNat)

/-- VWR (44_guest_interface.md R273): byte ADDR + i gets bits 8i+7:8i of DATA, every other byte is as before, and
dirty is set; past the end no byte moves and dirty is as before. -/
def Obligations.VramWrite : Prop :=
  ∀ (sz : AccessSize) (n : Nat) (addr : Word) (d : Data) (s : State), sizeBytes sz = 2 ^ n →
    (∃ ops : List Word, ∀ ws : List Word,
      decode (BitVec.ofNat 32 (0x60000000 + n * 2 ^ 27) :: addr :: (ops ++ ws)) = .ok (.vwr sz addr d) ws) ∧
    (addr.toNat + sizeBytes sz > s.params.vramSize →
      exec (.vwr sz addr d) s = .next { s with out := s.out ++ [.done] }) ∧
    (addr.toNat + sizeBytes sz ≤ s.params.vramSize →
      ∃ m : Memory, exec (.vwr sz addr d) s = .next { s with vram := m, dirty := true, out := s.out ++ [.done] } ∧
        (∀ i, i < sizeBytes sz →
          Memory.byte m (addr.toNat + i) = d.extractLsb' (8 * i) 8) ∧
        ∀ a, a < addr.toNat ∨ addr.toNat + sizeBytes sz ≤ a → Memory.byte m a = Memory.byte s.vram a)

/-- A read inside the bytes of an accepted write sees the corresponding bytes of the value written, whatever the two
sizes (20_memory.md R62, R64). -/
def Obligations.NarrowerReadsSeeTheBytesWritten : Prop :=
  ∀ (szW szR : AccessSize) (addr addr' : Word) (d : Data) (s t : State) (k : Nat),
    addr.toNat + sizeBytes szW ≤ s.params.vramSize → k + sizeBytes szR ≤ sizeBytes szW →
    addr'.toNat = addr.toNat + k → exec (.vwr szW addr d) s = .next t →
    ∃ v : Data, exec (.vrd szR addr') t = .next { t with out := t.out ++ [.data v] } ∧
      v.toNat = d.toNat / 256 ^ k % 256 ^ sizeBytes szR

/-! ## RENDER -/

/-- RENDER does nothing, with the status of the first check that fails (43_compositor.md R241). -/
def Obligations.RenderThatCannotRun : Prop :=
  ∀ s : State,
    (s.dirty = false → exec .render s = .next { s with out := s.out ++ [.status (.noOp .clean)] }) ∧
    (s.dirty = true → s.fbEnable = 0 →
      exec .render s = .next { s with out := s.out ++ [.status (.noOp .disabled)] }) ∧
    (s.dirty = true → s.fbEnable ≠ 0 → s.fbBpp ≠ 32 →
      exec .render s = .next { s with out := s.out ++ [.status (.noOp .unsupported)] }) ∧
    (s.dirty = true → s.fbEnable ≠ 0 → s.fbBpp = 32 →
      (s.fbWidth = 0 ∨ s.fbHeight = 0 ∨ s.fbPitch.toNat < 4 * s.fbWidth.toNat ∨
        s.fbAddr.toNat + s.fbPitch.toNat * s.fbHeight.toNat > s.params.vramSize) →
      exec .render s = .next { s with out := s.out ++ [.status (.noOp .malformed)] }) ∧
    (GateOpen s → ∃ t, exec .render s = .next t ∧ ∀ r, t.out ≠ s.out ++ [.status (.noOp r)])

/-- RENDER with nothing falling inside it (43_compositor.md R240, R243 to R246): the surface has the mode's size and
shows, pixel by pixel, the VRAM word or the cursor pixel over it; dirty is cleared, and nothing else changes. That an
empty `sched` runs the render in one step is the model's granularity (log entry 3). -/
def Obligations.RenderPresentsTheComposite : Prop :=
  ∀ s : State, GateOpen s → s.sched = [] →
    ∃ px : Array Word,
      exec .render s = .next
        { s with
          surface := { w := s.fbWidth, h := s.fbHeight, px := .shown px }, dirty := false, render := none
          out := s.out ++ [.status .rendered] } ∧
      px.size = s.fbWidth.toNat * s.fbHeight.toNat ∧
      ∀ x y, x < s.fbWidth.toNat → y < s.fbHeight.toNat →
        px[y * s.fbWidth.toNat + x]? = some (screenPixel s x y)

/-- RENDER with choices offered for its inside takes its first step only: the snapshot, and all the bytes of the
W by H pixels still to be read (43_compositor.md R242, R247; log entry 3). -/
def Obligations.RenderTakesItsSnapshot : Prop :=
  ∀ s : State, GateOpen s → s.sched ≠ [] →
    ∃ job : RenderJob, exec .render s = .next { s with render := some job } ∧
      job.w = s.fbWidth ∧ job.h = s.fbHeight ∧ job.pitch = s.fbPitch ∧ job.addr = s.fbAddr ∧
      job.cursor.enable = s.cursorEnable ∧ job.cursor.x = s.cursorX.toInt ∧ job.cursor.y = s.cursorY.toInt ∧
      job.cursor.hx = s.hotspotX.toInt ∧ job.cursor.hy = s.hotspotY.toInt ∧ job.cursor.bitmap = s.bitmap ∧
      job.scratch.size = 4 * (s.fbWidth.toNat * s.fbHeight.toNat) ∧ job.todo.Nodup ∧
      ∀ j, j ∈ job.todo ↔ j < 4 * (s.fbWidth.toNat * s.fbHeight.toNat)

/-- A render taken byte by byte, and its last step (43_compositor.md R247).
In any order with no VRAM transaction between, it ends as the render in one step does: after 4*W*H byte reads and a
last step, or, where the choices run out before, after one step more (log entry 3).
Whatever fell inside it, its last step presents the scratch words with the cursor the render fixed over them, clears
dirty and returns Rendered. The last step comes when no byte is left to be read, or when the choices have run out, and
it then reads the bytes that are left. The bounds on the scratch buffer are those of every render in a legal state. -/
def Obligations.RenderByBytesIsTheRenderInOneStep : Prop :=
  (∀ (s u : State) (picks rest : List Choice) (ws : List Word),
    GateOpen s → s.render = none → s.input = 0xC0000000 :: ws →
    s.sched = picks ++ rest → picks.all isCompositor = true →
    exec .render { s with input := ws, sched := [] } = .next u →
    (picks.length = 4 * (s.fbWidth.toNat * s.fbHeight.toNat) + 1 →
      Sys2Proof.core.run (picks.length + 1) s = .next { u with sched := rest }) ∧
    (picks ≠ [] → picks.length ≤ 4 * (s.fbWidth.toNat * s.fbHeight.toNat) → rest = [] →
      Sys2Proof.core.run (picks.length + 2) s = .next u)) ∧
  ∀ (s : State) (job : RenderJob), s.render = some job →
    job.scratch.size = 4 * (job.w.toNat * job.h.toNat) →
    (∀ j ∈ job.todo, j < 4 * (job.w.toNat * job.h.toNat)) →
    (s.sched = [] ∨ (job.todo = [] ∧ ∃ c cs, s.sched = c :: cs ∧ (isCompositor c = true ∨ s.offeredVram = none))) →
    ∃ px : Array Word,
      step s = .next
        { s with
          surface := { w := job.w, h := job.h, px := .shown px }, dirty := false, render := none
          sched := s.sched.tail, out := s.out ++ [.status .rendered] } ∧
      px.size = job.w.toNat * job.h.toNat ∧
      ∀ x y, x < job.w.toNat → y < job.h.toNat →
        px[y * job.w.toNat + x]? = some (underCursor job.cursor x y (lastPixel s job x y))

/-- The cursor over the background, for every pair of pixels: alpha 255 gives the cursor pixel, alpha 0 the background
bit for bit, and alpha 128 each colour channel within 1 of the rounded mean, with alpha 255
(43_compositor.md R249). -/
def Obligations.CompositingProperties : Prop :=
  ∀ p bg : Word,
    (channel p 24 = 255 → composePixel p bg = p) ∧ (channel p 24 = 0 → composePixel p bg = bg) ∧
    (channel p 24 = 128 → channel (composePixel p bg) 24 = 255 ∧
      ∀ lo ∈ [0, 8, 16], let mean := (channel p lo + channel bg lo + 1) / 2
        channel (composePixel p bg) lo ≤ mean + 1 ∧ mean ≤ channel (composePixel p bg) lo + 1)

/-- The blend is the formula of 43_compositor.md R245 for every alpha strictly between 0 and 255, and no channel of it
passes 255. -/
def Obligations.BlendFormula : Prop :=
  ∀ (fg bg : Word) (a : Nat), 0 < a → a < 255 →
    blend fg bg a = blended fg bg a ∧ channel (blend fg bg a) 24 = 255 ∧
    ∀ lo ∈ [0, 8, 16], (channel fg lo * a + channel bg lo * (255 - a)) / 255 ≤ 255 ∧
      channel (blend fg bg a) lo = (channel fg lo * a + channel bg lo * (255 - a)) / 255

/-- Tearing is possible (43_compositor.md R247, 70_reset_and_hazards.md R351): from a legal state with no render in
progress and RENDER and then one VRAM write offered, some run takes the two, the write inside the render, and shows a
pixel that mixes bytes from before and after the write, and is the word of neither; and the dirty flag the write set
is then lost (R352). -/
def Obligations.TearingAndLostDirtyArePossible : Prop :=
  ∃ (s t : State) (k : Nat) (sz : AccessSize) (addr : Word) (d : Data),
    Inv s ∧ GateOpen s ∧ s.render = none ∧ s.cursorEnable = 0 ∧
    s.input = encodeProgram [.render, .vwr sz addr d] ∧ Sys2Proof.core.run k s = .next t ∧
    t.input = [] ∧ t.render = none ∧ t.out = s.out ++ [.done, .status .rendered] ∧ t.dirty = false ∧
    t.vram ≠ s.vram ∧
    t.surface.pixel 0 0 ≠ backgroundPixel s 0 0 ∧ t.surface.pixel 0 0 ≠ backgroundPixel t 0 0 ∧
    ∀ k, k < 4 → ∃ u ∈ [s, t], channel (t.surface.pixel 0 0) (8 * k) = channel (backgroundPixel u 0 0) (8 * k)

/-! ## Invariants and whole-machine rules -/

/-- Every step from a legal state leads to a legal state. -/
def Obligations.StepKeepsInvariant : Prop :=
  ∀ s t : State, Inv s → step s = .next t → Inv t

/-- Only a VRAM-port write changes VRAM (10_state.md R45). -/
def Obligations.OnlyVramWritesChangeVram : Prop :=
  ∀ s t : State, step s = .next t → t.vram ≠ s.vram →
    ∃ sz addr d, decode s.input = .ok (.vwr sz addr d) t.input ∧
      addr.toNat + sizeBytes sz ≤ s.params.vramSize ∧ t.dirty = true ∧
      ∀ a, a < addr.toNat ∨ addr.toNat + sizeBytes sz ≤ a → Memory.byte t.vram a = Memory.byte s.vram a

/-- The one step that clears dirty is the end of a successful render (10_state.md R46). -/
def Obligations.OnlyARenderClearsDirty : Prop :=
  ∀ s t : State, step s = .next t → s.dirty = true → t.dirty = false →
    t.out = s.out ++ [.status .rendered] ∧ t.render = none ∧
      t = { s with
        surface := t.surface, dirty := false, render := none, input := t.input, sched := t.sched, out := t.out }

/-- VBLANK_COUNT changes only by 1, at a request_flip that succeeds, by command or by PAGE_FLIP. -/
def Obligations.OnlyFlipsCountVblanks : Prop :=
  ∀ (i : Instr) (s t : State), exec i s = .next t → t.vblankCount ≠ s.vblankCount →
    t.vblankCount = BitVec.ofNat 32 (s.vblankCount.toNat + 1) ∧ t.pending = false ∧ t.current = t.next ∧
    t.current.toNat < s.fbCount.toNat ∧
    ((∃ index wait, i = .requestFlip index wait ∧ t.current = index) ∨
      (∃ sz d, i = .wrPageFlip sz d ∧ t.current = s.next))

/-- Over any run VBLANK_COUNT increases, modulo 2^32, by the number of successful flips
(41_framebuffer_manager.md R159). -/
def Obligations.VblankCountIsTheNumberOfFlips : Prop :=
  ∀ (k : Nat) (s t : State), Sys2Proof.core.run k s = .next t →
    t.vblankCount.toNat = (s.vblankCount.toNat + flips k s) % 2 ^ 32

/-- In legal states Busy, Timeout and Unsupported are never returned: no step leaves a flip pending
(41_framebuffer_manager.md R153, R154, R158; 60_exceptions.md R302). -/
def Obligations.BusyAndTimeoutAreNeverReturned : Prop :=
  ∀ s t : State, Inv s → step s = .next t → t.pending = false ∧
    (t.out = s.out ∨ ∃ r, t.out = s.out ++ [r] ∧
      ∀ code record, r = .result code record → code = .ok ∨ code = .invalidArgument ∨ code = .outOfMemory)

/-- After a successful flip in a legal state FB_ADDR is exactly the start of the current slice, and the slice lies
inside VRAM (10_state.md R42, R50). -/
def Obligations.FlipShowsASliceOfVram : Prop :=
  ∀ (i : Instr) (s t : State), Inv s → exec i s = .next t → t.vblankCount ≠ s.vblankCount →
    t.fbAddr.toNat = t.current.toNat * t.fbSize ∧ t.fbAddr.toNat + t.fbSize ≤ t.params.vramSize

/-- A command that returns an error changes no state (00_scope.md R12). -/
def Obligations.ErrorsChangeNothing : Prop :=
  ∀ (i : Instr) (s t : State) (code : ResultCode) (r : ResultRecord), exec i s = .next t →
    t.out = s.out ++ [.result code r] → code ≠ .ok →
    t = { s with out := s.out ++ [.result code .none] }

/-- Each result code has its number, and no other code has it (60_exceptions.md R303). -/
def Obligations.ResultCodeNumbers : Prop :=
  ∀ (code : ResultCode) (n : Nat), resultCodeNumber code = n ↔ (code, n) ∈ codeNumbers

/-- No read changes any state but the diagnostic log (20_memory.md R67, 40_register_bank.md R108). -/
def Obligations.ReadsChangeOnlyTheLog : Prop :=
  ∀ (i : Instr) (s : State), isRead i = true → ∃ (v : Data) (t : State), exec i s = .next t ∧
    t = { s with diag := t.diag, draws := t.draws, out := s.out ++ [.data v] }

/-- No operation stops the block, and each but a render that stays in progress returns one response
(60_exceptions.md R300). -/
def Obligations.EveryOperationCompletes : Prop :=
  ∀ (i : Instr) (s : State), ∃ t, exec i s = .next t ∧
    ((∃ r, t.out = s.out ++ [r]) ∨ (i = .render ∧ t.out = s.out ∧ t.render.isSome = true))

/-- No operation reads the diagnostic log (10_state.md R48): with another log before it, an operation does the same and
appends the same events. -/
def Obligations.NothingReadsTheDiagnosticLog : Prop :=
  ∀ (i : Instr) (s t : State), exec i s = .next t →
    ∃ e, e.length ≤ 1 ∧ t.diag = s.diag ++ e ∧
      ∀ d, exec i { s with diag := d } = .next { t with diag := d ++ e }

/-- What a guest is returned does not depend on the state it cannot read (10_state.md R51). -/
def Obligations.GuestCannotReadHiddenState : Prop :=
  ∀ (i : Instr) (s t t' : State) (dirty : Bool) (u : Fin 4096) (size : Nat) (bm : Vector Word 4096)
    (f : Surface) (d : List DiagEvent), isGuest i = true → exec i s = .next t →
    exec i { s with dirty := dirty, uploadCursor := u, fbSize := size, bitmap := bm, surface := f, diag := d } =
      .next t' →
    t'.out = t.out

/-- The cursor enable state machine (42_cursor_overlay.md R203): only a CURSOR_ENABLE write or SET_ENABLED moves it,
to the state the value selects, and each sets dirty. -/
def Obligations.CursorEnableMachine : Prop :=
  ∀ (i : Instr) (s t : State), exec i s = .next t →
    (t.cursorEnable ≠ s.cursorEnable →
      (∃ sz d, i = .wrCursorEnable sz d) ∨ (∃ b, i = .setEnabled b)) ∧
    (∀ sz d, i = .wrCursorEnable sz d →
      t.dirty = true ∧ (t.cursorShown = true ↔ d.toNat % 2 ^ min (8 * sizeBytes sz) 32 ≠ 0)) ∧
    (∀ b, i = .setEnabled b → t.dirty = true ∧ (t.cursorShown = true ↔ b ≠ 0))

/-- The slice size is set only by setup_multi, by command or by FB_COUNT (10_state.md R42). -/
def Obligations.OnlySetupMultiSetsTheSliceSize : Prop :=
  ∀ (i : Instr) (s t : State), exec i s = .next t → t.fbSize ≠ s.fbSize ∨ t.fbCount ≠ s.fbCount →
    t.current = 0 ∧ t.next = 0 ∧ t.fbSize * t.fbCount.toNat ≤ s.params.vramSize ∧
    ((∃ count w h bpp, i = .setupMulti count w h bpp ∧ t.fbCount = count ∧
        t.fbSize = w.toNat * (bpp.toNat / 8) * h.toNat) ∨
      (∃ sz d, i = .wrFbCount sz d ∧
        t.fbSize = s.fbWidth.toNat * (s.fbBpp.toNat / 8) * s.fbHeight.toNat))

/-- The parameters are constant for the life of the instance (10_state.md R23, 00_scope.md R7). -/
def Obligations.ParametersAreConstant : Prop :=
  ∀ (k : Nat) (s t : State), Sys2Proof.core.run k s = .next t → t.params = s.params

/-! ## The GuestInterface -/

/-- A guest address becomes the operation that the words for its region and offset spell
(44_guest_interface.md R270). The VRAM window is page-aligned (00_scope.md R7), so with legal parameters an address and
its ADDR have one offset within a page, whatever the page size. The register window is looked at first, the model's
choice (log entry 12). -/
def Obligations.GuestAddressesAreRouted : Prop :=
  ∀ (p : Params) (address : Nat) (sz : AccessSize) (n : Nat) (d : Data), sizeBytes sz = 2 ^ n →
    p.vramSize ≤ 2 ^ 32 →
    (p.regBase ≤ address → address < p.regBase + 4096 →
      (∃ i, mmioRead p address sz = some i ∧
        decode [BitVec.ofNat 32 (n * 2 ^ 27 + (address - p.regBase))] = .ok i []) ∧
      ∃ i, mmioWrite p address sz d = some i ∧
        decode (BitVec.ofNat 32 (0x20000000 + n * 2 ^ 27 + (address - p.regBase)) :: dataWords d) = .ok i []) ∧
    ((address < p.regBase ∨ p.regBase + 4096 ≤ address) → p.vramBase ≤ address →
      address < p.vramBase + p.vramSize →
      ∃ a : Word, a.toNat = address - p.vramBase ∧ mmioRead p address sz = some (.vrd sz a) ∧
        mmioWrite p address sz d = some (.vwr sz a d) ∧
        (ParamsLegal p → a.toNat % p.pageSize = address % p.pageSize)) ∧
    ((address < p.regBase ∨ p.regBase + 4096 ≤ address) →
      (address < p.vramBase ∨ p.vramBase + p.vramSize ≤ address) →
      mmioRead p address sz = none ∧ mmioWrite p address sz d = none)
end

