-- ==== Sys2Proof/Laws/Memory.lean ====
section
/-! SUPPORT. The laws of VRAM: reading after writing, frames, and the canonical form. -/

namespace Sys2Proof.Machine

/-! ## One byte -/

theorem Memory.find_set_self (m : Memory) (a : Nat) (b : Byte) : Memory.find (Memory.set m a b) a = some b := by
  induction m with
  | nil => simp [Memory.set, Memory.find]
  | cons c r ih =>
    obtain ⟨k, v⟩ := c
    unfold Memory.set
    by_cases h1 : a < k
    · simp [h1, Memory.find]
    · by_cases h2 : a = k
      · simp [h2, Memory.find]
      · have h3 : ¬ k = a := fun h => h2 h.symm
        simp [h1, h2, h3, Memory.find, ih]

theorem Memory.find_set_other (m : Memory) {a a' : Nat} (b : Byte) (h : a' ≠ a) :
    Memory.find (Memory.set m a b) a' = Memory.find m a' := by
  induction m with
  | nil => simp [Memory.set, Memory.find, Ne.symm h]
  | cons c r ih =>
    obtain ⟨k, v⟩ := c
    unfold Memory.set
    by_cases h1 : a < k
    · simp [h1, Memory.find, Ne.symm h]
    · by_cases h2 : a = k
      · subst h2
        simp [Memory.find, Ne.symm h]
      · simp [h1, h2, Memory.find, ih]

@[simp] theorem Memory.byte_set_self (m : Memory) (a : Nat) (b : Byte) : Memory.byte (Memory.set m a b) a = b := by
  simp [Memory.byte, Memory.find_set_self]

theorem Memory.byte_set_other (m : Memory) {a a' : Nat} (b : Byte) (h : a' ≠ a) :
    Memory.byte (Memory.set m a b) a' = Memory.byte m a' := by
  simp [Memory.byte, Memory.find_set_other m b h]

/-! ## The canonical form -/

theorem Memory.wf_cons {c : Host.Cell} {m : Memory} :
    Memory.wf (c :: m) = true ↔ (∀ d ∈ m.head?, c.1 < d.1) ∧ Memory.wf m = true := by
  cases m with
  | nil => simp [Memory.wf]
  | cons d r => simp [Memory.wf]

theorem Memory.head_set (m : Memory) (a : Nat) (b : Byte) :
    ∀ d ∈ (Memory.set m a b).head?, d.1 = a ∨ ∃ e ∈ m.head?, d.1 = e.1 := by
  cases m with
  | nil => simp [Memory.set]
  | cons c r =>
    obtain ⟨k, v⟩ := c
    unfold Memory.set
    split
    · simp
    · split
      · simp
      · simp

theorem Memory.wf_set (m : Memory) (a : Nat) (b : Byte) (h : Memory.wf m = true) :
    Memory.wf (Memory.set m a b) = true := by
  induction m with
  | nil => simp [Memory.set, Memory.wf]
  | cons c r ih =>
    obtain ⟨k, v⟩ := c
    rw [Memory.wf_cons] at h
    unfold Memory.set
    split
    · next h1 => exact Memory.wf_cons.mpr ⟨by simpa using h1, Memory.wf_cons.mpr h⟩
    · next h1 =>
      split
      · next h2 => exact Memory.wf_cons.mpr ⟨fun d hd => h2 ▸ h.1 d hd, h.2⟩
      · next h2 =>
        refine Memory.wf_cons.mpr ⟨fun d hd => ?_, ih h.2⟩
        rcases Memory.head_set r a b d hd with he | ⟨e, he, hde⟩
        · show k < d.1
          omega
        · have := h.1 e he
          show k < d.1
          simp only at this
          omega

theorem Memory.wf_writeLE (m : Memory) (a n v : Nat) (h : Memory.wf m = true) :
    Memory.wf (Memory.writeLE m a n v) = true := by
  induction n generalizing m a v with
  | zero => exact h
  | succ n ih => exact ih _ _ _ (Memory.wf_set m a _ h)

theorem reset_vram_wf : Memory.wf State.reset.vram = true := rfl

/-- A cell of a memory after a write is the written one or was there before. -/
theorem Memory.mem_set {m : Memory} {a : Nat} {b : Byte} {c : Host.Cell} (h : c ∈ Memory.set m a b) :
    c.1 = a ∨ c ∈ m := by
  induction m with
  | nil => simp [Memory.set] at h; simp [h]
  | cons d r ih =>
    obtain ⟨k, v⟩ := d
    unfold Memory.set at h
    split at h
    · rcases List.mem_cons.mp h with rfl | h
      · exact .inl rfl
      · exact .inr h
    · split at h
      · rcases List.mem_cons.mp h with rfl | h
        · exact .inl rfl
        · exact .inr (List.mem_cons_of_mem _ h)
      · rcases List.mem_cons.mp h with rfl | h
        · exact .inr (List.mem_cons_self ..)
        · rcases ih h with h | h
          · exact .inl h
          · exact .inr (List.mem_cons_of_mem _ h)

theorem Memory.mem_writeLE {m : Memory} {a n v : Nat} {c : Host.Cell} (h : c ∈ Memory.writeLE m a n v) :
    (a ≤ c.1 ∧ c.1 < a + n) ∨ c ∈ m := by
  induction n generalizing m a v with
  | zero => exact .inr h
  | succ n ih =>
    rcases ih h with h | h
    · exact .inl ⟨by omega, by omega⟩
    · rcases Memory.mem_set h with h | h
      · exact .inl ⟨by omega, by omega⟩
      · exact .inr h

/-- Nothing is written below the first entry of a canonical memory. -/
theorem Memory.find_of_lt {m : Memory} {a : Nat} (h : Memory.wf m = true) (ha : ∀ d ∈ m.head?, a < d.1) :
    Memory.find m a = none := by
  induction m with
  | nil => rfl
  | cons c r ih =>
    obtain ⟨k, v⟩ := c
    have hk : a < k := ha _ rfl
    rw [Memory.wf_cons] at h
    have : ¬ k = a := by omega
    simp only [Memory.find, this, if_false]
    exact ih h.2 fun d hd => Nat.lt_trans hk (h.1 d hd)

/-- Canonical memories that list the same bytes are the same list. -/
theorem Memory.ext_find {m m' : Memory} (h : Memory.wf m = true) (h' : Memory.wf m' = true)
    (hf : ∀ a, Memory.find m a = Memory.find m' a) : m = m' := by
  induction m generalizing m' with
  | nil =>
    cases m' with
    | nil => rfl
    | cons c r => have := hf c.1; simp [Memory.find] at this
  | cons c r ih =>
    obtain ⟨k, v⟩ := c
    cases m' with
    | nil => have := hf k; simp [Memory.find] at this
    | cons c' r' =>
      obtain ⟨k', v'⟩ := c'
      have hk : k = k' := by
        rcases Nat.lt_trichotomy k k' with hlt | heq | hgt
        · have h1 := hf k
          rw [Memory.find_of_lt h' (by simpa using hlt)] at h1
          simp [Memory.find] at h1
        · exact heq
        · have h1 := hf k'
          rw [Memory.find_of_lt h (by simpa using hgt)] at h1
          simp [Memory.find] at h1
      subst hk
      have hv : v = v' := by have h1 := hf k; simpa [Memory.find] using h1
      subst hv
      rw [Memory.wf_cons] at h h'
      rw [ih h.2 h'.2 fun a => ?_]
      by_cases ha : k = a
      · subst ha
        rw [Memory.find_of_lt h.2 h.1, Memory.find_of_lt h'.2 h'.1]
      · have h1 := hf a
        simpa [Memory.find, ha] using h1

/-! ## Accesses of several bytes -/

theorem Memory.byte_writeLE_outside (m : Memory) (a n v : Nat) {x : Nat} (h : x < a ∨ a + n ≤ x) :
    Memory.byte (Memory.writeLE m a n v) x = Memory.byte m x := by
  induction n generalizing m a v with
  | zero => rfl
  | succ n ih =>
    rw [Memory.writeLE, ih _ _ _ (by omega)]
    exact Memory.byte_set_other _ _ (by omega)

theorem Memory.byte_writeLE_inside (m : Memory) (a n v : Nat) {i : Nat} (h : i < n) :
    Memory.byte (Memory.writeLE m a n v) (a + i) = BitVec.ofNat 8 (v / 256 ^ i) := by
  induction n generalizing m a v i with
  | zero => omega
  | succ n ih =>
    rw [Memory.writeLE]
    cases i with
    | zero =>
      rw [Memory.byte_writeLE_outside _ _ _ _ (by omega)]
      simp
    | succ i =>
      have := ih (Memory.set m a (BitVec.ofNat 8 v)) (a + 1) (v / 256) (i := i) (by omega)
      rw [show a + (i + 1) = a + 1 + i by omega, this, Nat.div_div_eq_div_mul, Nat.pow_succ, Nat.mul_comm]

theorem Memory.readLE_lt (m : Memory) (a n : Nat) : Memory.readLE m a n < 256 ^ n := by
  induction n generalizing a with
  | zero => simp [Memory.readLE]
  | succ n ih =>
    have h1 := ih (a + 1)
    have h2 := (Memory.byte m a).isLt
    rw [Memory.readLE, Nat.pow_succ]
    omega

/-- A read depends on the bytes it covers alone. -/
theorem Memory.readLE_congr {m m' : Memory} {a n : Nat}
    (h : ∀ x, a ≤ x → x < a + n → Memory.byte m x = Memory.byte m' x) :
    Memory.readLE m a n = Memory.readLE m' a n := by
  induction n generalizing a with
  | zero => rfl
  | succ n ih =>
    rw [Memory.readLE, Memory.readLE, h a (by omega) (by omega), ih fun x h1 h2 => h x (by omega) (by omega)]

end Sys2Proof.Machine
end

