-- ==== Sys2Proof/Laws/State.lean ====
section
/-! SUPPORT. One lemma per field per named update of State. -/

namespace Sys2Proof.Machine

variable (s : State)

@[simp] theorem State.markDirty_params : (s.markDirty).params = s.params := rfl
@[simp] theorem State.markDirty_control : (s.markDirty).control = s.control := rfl
@[simp] theorem State.markDirty_fbAddr : (s.markDirty).fbAddr = s.fbAddr := rfl
@[simp] theorem State.markDirty_fbWidth : (s.markDirty).fbWidth = s.fbWidth := rfl
@[simp] theorem State.markDirty_fbHeight : (s.markDirty).fbHeight = s.fbHeight := rfl
@[simp] theorem State.markDirty_fbBpp : (s.markDirty).fbBpp = s.fbBpp := rfl
@[simp] theorem State.markDirty_fbEnable : (s.markDirty).fbEnable = s.fbEnable := rfl
@[simp] theorem State.markDirty_fbPitch : (s.markDirty).fbPitch = s.fbPitch := rfl
@[simp] theorem State.markDirty_cursorX : (s.markDirty).cursorX = s.cursorX := rfl
@[simp] theorem State.markDirty_cursorY : (s.markDirty).cursorY = s.cursorY := rfl
@[simp] theorem State.markDirty_cursorEnable : (s.markDirty).cursorEnable = s.cursorEnable := rfl
@[simp] theorem State.markDirty_hotspotX : (s.markDirty).hotspotX = s.hotspotX := rfl
@[simp] theorem State.markDirty_hotspotY : (s.markDirty).hotspotY = s.hotspotY := rfl
@[simp] theorem State.markDirty_fbCount : (s.markDirty).fbCount = s.fbCount := rfl
@[simp] theorem State.markDirty_fbSize : (s.markDirty).fbSize = s.fbSize := rfl
@[simp] theorem State.markDirty_current : (s.markDirty).current = s.current := rfl
@[simp] theorem State.markDirty_next : (s.markDirty).next = s.next := rfl
@[simp] theorem State.markDirty_pending : (s.markDirty).pending = s.pending := rfl
@[simp] theorem State.markDirty_vblankCount : (s.markDirty).vblankCount = s.vblankCount := rfl
@[simp] theorem State.markDirty_bitmap : (s.markDirty).bitmap = s.bitmap := rfl
@[simp] theorem State.markDirty_uploadCursor : (s.markDirty).uploadCursor = s.uploadCursor := rfl
@[simp] theorem State.markDirty_cursorLoaded : (s.markDirty).cursorLoaded = s.cursorLoaded := rfl
@[simp] theorem State.markDirty_vram : (s.markDirty).vram = s.vram := rfl
@[simp] theorem State.markDirty_dirty : (s.markDirty).dirty = true := rfl
@[simp] theorem State.markDirty_surface : (s.markDirty).surface = s.surface := rfl
@[simp] theorem State.markDirty_diag : (s.markDirty).diag = s.diag := rfl
@[simp] theorem State.markDirty_render : (s.markDirty).render = s.render := rfl
@[simp] theorem State.markDirty_input : (s.markDirty).input = s.input := rfl
@[simp] theorem State.markDirty_sched : (s.markDirty).sched = s.sched := rfl
@[simp] theorem State.markDirty_out : (s.markDirty).out = s.out := rfl
@[simp] theorem State.markDirty_draws : (s.markDirty).draws = s.draws := rfl

@[simp] theorem State.respond_params (r : Response) : (s.respond r).params = s.params := rfl
@[simp] theorem State.respond_control (r : Response) : (s.respond r).control = s.control := rfl
@[simp] theorem State.respond_fbAddr (r : Response) : (s.respond r).fbAddr = s.fbAddr := rfl
@[simp] theorem State.respond_fbWidth (r : Response) : (s.respond r).fbWidth = s.fbWidth := rfl
@[simp] theorem State.respond_fbHeight (r : Response) : (s.respond r).fbHeight = s.fbHeight := rfl
@[simp] theorem State.respond_fbBpp (r : Response) : (s.respond r).fbBpp = s.fbBpp := rfl
@[simp] theorem State.respond_fbEnable (r : Response) : (s.respond r).fbEnable = s.fbEnable := rfl
@[simp] theorem State.respond_fbPitch (r : Response) : (s.respond r).fbPitch = s.fbPitch := rfl
@[simp] theorem State.respond_cursorX (r : Response) : (s.respond r).cursorX = s.cursorX := rfl
@[simp] theorem State.respond_cursorY (r : Response) : (s.respond r).cursorY = s.cursorY := rfl
@[simp] theorem State.respond_cursorEnable (r : Response) : (s.respond r).cursorEnable = s.cursorEnable := rfl
@[simp] theorem State.respond_hotspotX (r : Response) : (s.respond r).hotspotX = s.hotspotX := rfl
@[simp] theorem State.respond_hotspotY (r : Response) : (s.respond r).hotspotY = s.hotspotY := rfl
@[simp] theorem State.respond_fbCount (r : Response) : (s.respond r).fbCount = s.fbCount := rfl
@[simp] theorem State.respond_fbSize (r : Response) : (s.respond r).fbSize = s.fbSize := rfl
@[simp] theorem State.respond_current (r : Response) : (s.respond r).current = s.current := rfl
@[simp] theorem State.respond_next (r : Response) : (s.respond r).next = s.next := rfl
@[simp] theorem State.respond_pending (r : Response) : (s.respond r).pending = s.pending := rfl
@[simp] theorem State.respond_vblankCount (r : Response) : (s.respond r).vblankCount = s.vblankCount := rfl
@[simp] theorem State.respond_bitmap (r : Response) : (s.respond r).bitmap = s.bitmap := rfl
@[simp] theorem State.respond_uploadCursor (r : Response) : (s.respond r).uploadCursor = s.uploadCursor := rfl
@[simp] theorem State.respond_cursorLoaded (r : Response) : (s.respond r).cursorLoaded = s.cursorLoaded := rfl
@[simp] theorem State.respond_vram (r : Response) : (s.respond r).vram = s.vram := rfl
@[simp] theorem State.respond_dirty (r : Response) : (s.respond r).dirty = s.dirty := rfl
@[simp] theorem State.respond_surface (r : Response) : (s.respond r).surface = s.surface := rfl
@[simp] theorem State.respond_diag (r : Response) : (s.respond r).diag = s.diag := rfl
@[simp] theorem State.respond_render (r : Response) : (s.respond r).render = s.render := rfl
@[simp] theorem State.respond_input (r : Response) : (s.respond r).input = s.input := rfl
@[simp] theorem State.respond_sched (r : Response) : (s.respond r).sched = s.sched := rfl
@[simp] theorem State.respond_out (r : Response) : (s.respond r).out = s.out ++ [r] := rfl
@[simp] theorem State.respond_draws (r : Response) : (s.respond r).draws = s.draws := rfl

@[simp] theorem State.logDiag_params (k : DiagKind) (off : Off) : (s.logDiag k off).params = s.params := rfl
@[simp] theorem State.logDiag_control (k : DiagKind) (off : Off) : (s.logDiag k off).control = s.control := rfl
@[simp] theorem State.logDiag_fbAddr (k : DiagKind) (off : Off) : (s.logDiag k off).fbAddr = s.fbAddr := rfl
@[simp] theorem State.logDiag_fbWidth (k : DiagKind) (off : Off) : (s.logDiag k off).fbWidth = s.fbWidth := rfl
@[simp] theorem State.logDiag_fbHeight (k : DiagKind) (off : Off) : (s.logDiag k off).fbHeight = s.fbHeight := rfl
@[simp] theorem State.logDiag_fbBpp (k : DiagKind) (off : Off) : (s.logDiag k off).fbBpp = s.fbBpp := rfl
@[simp] theorem State.logDiag_fbEnable (k : DiagKind) (off : Off) : (s.logDiag k off).fbEnable = s.fbEnable := rfl
@[simp] theorem State.logDiag_fbPitch (k : DiagKind) (off : Off) : (s.logDiag k off).fbPitch = s.fbPitch := rfl
@[simp] theorem State.logDiag_cursorX (k : DiagKind) (off : Off) : (s.logDiag k off).cursorX = s.cursorX := rfl
@[simp] theorem State.logDiag_cursorY (k : DiagKind) (off : Off) : (s.logDiag k off).cursorY = s.cursorY := rfl
@[simp] theorem State.logDiag_cursorEnable (k : DiagKind) (off : Off) : (s.logDiag k off).cursorEnable = s.cursorEnable := rfl
@[simp] theorem State.logDiag_hotspotX (k : DiagKind) (off : Off) : (s.logDiag k off).hotspotX = s.hotspotX := rfl
@[simp] theorem State.logDiag_hotspotY (k : DiagKind) (off : Off) : (s.logDiag k off).hotspotY = s.hotspotY := rfl
@[simp] theorem State.logDiag_fbCount (k : DiagKind) (off : Off) : (s.logDiag k off).fbCount = s.fbCount := rfl
@[simp] theorem State.logDiag_fbSize (k : DiagKind) (off : Off) : (s.logDiag k off).fbSize = s.fbSize := rfl
@[simp] theorem State.logDiag_current (k : DiagKind) (off : Off) : (s.logDiag k off).current = s.current := rfl
@[simp] theorem State.logDiag_next (k : DiagKind) (off : Off) : (s.logDiag k off).next = s.next := rfl
@[simp] theorem State.logDiag_pending (k : DiagKind) (off : Off) : (s.logDiag k off).pending = s.pending := rfl
@[simp] theorem State.logDiag_vblankCount (k : DiagKind) (off : Off) : (s.logDiag k off).vblankCount = s.vblankCount := rfl
@[simp] theorem State.logDiag_bitmap (k : DiagKind) (off : Off) : (s.logDiag k off).bitmap = s.bitmap := rfl
@[simp] theorem State.logDiag_uploadCursor (k : DiagKind) (off : Off) : (s.logDiag k off).uploadCursor = s.uploadCursor := rfl
@[simp] theorem State.logDiag_cursorLoaded (k : DiagKind) (off : Off) : (s.logDiag k off).cursorLoaded = s.cursorLoaded := rfl
@[simp] theorem State.logDiag_vram (k : DiagKind) (off : Off) : (s.logDiag k off).vram = s.vram := rfl
@[simp] theorem State.logDiag_dirty (k : DiagKind) (off : Off) : (s.logDiag k off).dirty = s.dirty := rfl
@[simp] theorem State.logDiag_surface (k : DiagKind) (off : Off) : (s.logDiag k off).surface = s.surface := rfl
@[simp] theorem State.logDiag_diag (k : DiagKind) (off : Off) : (s.logDiag k off).diag = s.diag ++ [{ kind := k, offset := off }] := rfl
@[simp] theorem State.logDiag_render (k : DiagKind) (off : Off) : (s.logDiag k off).render = s.render := rfl
@[simp] theorem State.logDiag_input (k : DiagKind) (off : Off) : (s.logDiag k off).input = s.input := rfl
@[simp] theorem State.logDiag_sched (k : DiagKind) (off : Off) : (s.logDiag k off).sched = s.sched := rfl
@[simp] theorem State.logDiag_out (k : DiagKind) (off : Off) : (s.logDiag k off).out = s.out := rfl
@[simp] theorem State.logDiag_draws (k : DiagKind) (off : Off) : (s.logDiag k off).draws = s.draws := rfl

@[simp] theorem State.recomputePitch_params : (s.recomputePitch).params = s.params := rfl
@[simp] theorem State.recomputePitch_control : (s.recomputePitch).control = s.control := rfl
@[simp] theorem State.recomputePitch_fbAddr : (s.recomputePitch).fbAddr = s.fbAddr := rfl
@[simp] theorem State.recomputePitch_fbWidth : (s.recomputePitch).fbWidth = s.fbWidth := rfl
@[simp] theorem State.recomputePitch_fbHeight : (s.recomputePitch).fbHeight = s.fbHeight := rfl
@[simp] theorem State.recomputePitch_fbBpp : (s.recomputePitch).fbBpp = s.fbBpp := rfl
@[simp] theorem State.recomputePitch_fbEnable : (s.recomputePitch).fbEnable = s.fbEnable := rfl
@[simp] theorem State.recomputePitch_fbPitch : (s.recomputePitch).fbPitch = BitVec.ofNat 32 (s.fbWidth.toNat * (s.fbBpp.toNat / 8)) := rfl
@[simp] theorem State.recomputePitch_cursorX : (s.recomputePitch).cursorX = s.cursorX := rfl
@[simp] theorem State.recomputePitch_cursorY : (s.recomputePitch).cursorY = s.cursorY := rfl
@[simp] theorem State.recomputePitch_cursorEnable : (s.recomputePitch).cursorEnable = s.cursorEnable := rfl
@[simp] theorem State.recomputePitch_hotspotX : (s.recomputePitch).hotspotX = s.hotspotX := rfl
@[simp] theorem State.recomputePitch_hotspotY : (s.recomputePitch).hotspotY = s.hotspotY := rfl
@[simp] theorem State.recomputePitch_fbCount : (s.recomputePitch).fbCount = s.fbCount := rfl
@[simp] theorem State.recomputePitch_fbSize : (s.recomputePitch).fbSize = s.fbSize := rfl
@[simp] theorem State.recomputePitch_current : (s.recomputePitch).current = s.current := rfl
@[simp] theorem State.recomputePitch_next : (s.recomputePitch).next = s.next := rfl
@[simp] theorem State.recomputePitch_pending : (s.recomputePitch).pending = s.pending := rfl
@[simp] theorem State.recomputePitch_vblankCount : (s.recomputePitch).vblankCount = s.vblankCount := rfl
@[simp] theorem State.recomputePitch_bitmap : (s.recomputePitch).bitmap = s.bitmap := rfl
@[simp] theorem State.recomputePitch_uploadCursor : (s.recomputePitch).uploadCursor = s.uploadCursor := rfl
@[simp] theorem State.recomputePitch_cursorLoaded : (s.recomputePitch).cursorLoaded = s.cursorLoaded := rfl
@[simp] theorem State.recomputePitch_vram : (s.recomputePitch).vram = s.vram := rfl
@[simp] theorem State.recomputePitch_dirty : (s.recomputePitch).dirty = s.dirty := rfl
@[simp] theorem State.recomputePitch_surface : (s.recomputePitch).surface = s.surface := rfl
@[simp] theorem State.recomputePitch_diag : (s.recomputePitch).diag = s.diag := rfl
@[simp] theorem State.recomputePitch_render : (s.recomputePitch).render = s.render := rfl
@[simp] theorem State.recomputePitch_input : (s.recomputePitch).input = s.input := rfl
@[simp] theorem State.recomputePitch_sched : (s.recomputePitch).sched = s.sched := rfl
@[simp] theorem State.recomputePitch_out : (s.recomputePitch).out = s.out := rfl
@[simp] theorem State.recomputePitch_draws : (s.recomputePitch).draws = s.draws := rfl

@[simp] theorem State.resizeSurface_params : (s.resizeSurface).params = s.params := rfl
@[simp] theorem State.resizeSurface_control : (s.resizeSurface).control = s.control := rfl
@[simp] theorem State.resizeSurface_fbAddr : (s.resizeSurface).fbAddr = s.fbAddr := rfl
@[simp] theorem State.resizeSurface_fbWidth : (s.resizeSurface).fbWidth = s.fbWidth := rfl
@[simp] theorem State.resizeSurface_fbHeight : (s.resizeSurface).fbHeight = s.fbHeight := rfl
@[simp] theorem State.resizeSurface_fbBpp : (s.resizeSurface).fbBpp = s.fbBpp := rfl
@[simp] theorem State.resizeSurface_fbEnable : (s.resizeSurface).fbEnable = s.fbEnable := rfl
@[simp] theorem State.resizeSurface_fbPitch : (s.resizeSurface).fbPitch = s.fbPitch := rfl
@[simp] theorem State.resizeSurface_cursorX : (s.resizeSurface).cursorX = s.cursorX := rfl
@[simp] theorem State.resizeSurface_cursorY : (s.resizeSurface).cursorY = s.cursorY := rfl
@[simp] theorem State.resizeSurface_cursorEnable : (s.resizeSurface).cursorEnable = s.cursorEnable := rfl
@[simp] theorem State.resizeSurface_hotspotX : (s.resizeSurface).hotspotX = s.hotspotX := rfl
@[simp] theorem State.resizeSurface_hotspotY : (s.resizeSurface).hotspotY = s.hotspotY := rfl
@[simp] theorem State.resizeSurface_fbCount : (s.resizeSurface).fbCount = s.fbCount := rfl
@[simp] theorem State.resizeSurface_fbSize : (s.resizeSurface).fbSize = s.fbSize := rfl
@[simp] theorem State.resizeSurface_current : (s.resizeSurface).current = s.current := rfl
@[simp] theorem State.resizeSurface_next : (s.resizeSurface).next = s.next := rfl
@[simp] theorem State.resizeSurface_pending : (s.resizeSurface).pending = s.pending := rfl
@[simp] theorem State.resizeSurface_vblankCount : (s.resizeSurface).vblankCount = s.vblankCount := rfl
@[simp] theorem State.resizeSurface_bitmap : (s.resizeSurface).bitmap = s.bitmap := rfl
@[simp] theorem State.resizeSurface_uploadCursor : (s.resizeSurface).uploadCursor = s.uploadCursor := rfl
@[simp] theorem State.resizeSurface_cursorLoaded : (s.resizeSurface).cursorLoaded = s.cursorLoaded := rfl
@[simp] theorem State.resizeSurface_vram : (s.resizeSurface).vram = s.vram := rfl
@[simp] theorem State.resizeSurface_dirty : (s.resizeSurface).dirty = s.dirty := rfl
@[simp] theorem State.resizeSurface_surface : (s.resizeSurface).surface = { w := s.fbWidth, h := s.fbHeight, px := .unspecified s.draws } := rfl
@[simp] theorem State.resizeSurface_diag : (s.resizeSurface).diag = s.diag := rfl
@[simp] theorem State.resizeSurface_render : (s.resizeSurface).render = s.render := rfl
@[simp] theorem State.resizeSurface_input : (s.resizeSurface).input = s.input := rfl
@[simp] theorem State.resizeSurface_sched : (s.resizeSurface).sched = s.sched := rfl
@[simp] theorem State.resizeSurface_out : (s.resizeSurface).out = s.out := rfl
@[simp] theorem State.resizeSurface_draws : (s.resizeSurface).draws = s.draws + 1 := rfl

@[simp] theorem State.ctrlReset_params : (s.ctrlReset).params = s.params := rfl
@[simp] theorem State.ctrlReset_control : (s.ctrlReset).control = s.control := rfl
@[simp] theorem State.ctrlReset_fbAddr : (s.ctrlReset).fbAddr = s.fbAddr := rfl
@[simp] theorem State.ctrlReset_fbWidth : (s.ctrlReset).fbWidth = Config.defaultWidth := rfl
@[simp] theorem State.ctrlReset_fbHeight : (s.ctrlReset).fbHeight = Config.defaultHeight := rfl
@[simp] theorem State.ctrlReset_fbBpp : (s.ctrlReset).fbBpp = Config.defaultBpp := rfl
@[simp] theorem State.ctrlReset_fbEnable : (s.ctrlReset).fbEnable = 0 := rfl
@[simp] theorem State.ctrlReset_fbPitch : (s.ctrlReset).fbPitch = Config.defaultPitch := rfl
@[simp] theorem State.ctrlReset_cursorX : (s.ctrlReset).cursorX = s.cursorX := rfl
@[simp] theorem State.ctrlReset_cursorY : (s.ctrlReset).cursorY = s.cursorY := rfl
@[simp] theorem State.ctrlReset_cursorEnable : (s.ctrlReset).cursorEnable = s.cursorEnable := rfl
@[simp] theorem State.ctrlReset_hotspotX : (s.ctrlReset).hotspotX = s.hotspotX := rfl
@[simp] theorem State.ctrlReset_hotspotY : (s.ctrlReset).hotspotY = s.hotspotY := rfl
@[simp] theorem State.ctrlReset_fbCount : (s.ctrlReset).fbCount = s.fbCount := rfl
@[simp] theorem State.ctrlReset_fbSize : (s.ctrlReset).fbSize = s.fbSize := rfl
@[simp] theorem State.ctrlReset_current : (s.ctrlReset).current = s.current := rfl
@[simp] theorem State.ctrlReset_next : (s.ctrlReset).next = s.next := rfl
@[simp] theorem State.ctrlReset_pending : (s.ctrlReset).pending = s.pending := rfl
@[simp] theorem State.ctrlReset_vblankCount : (s.ctrlReset).vblankCount = s.vblankCount := rfl
@[simp] theorem State.ctrlReset_bitmap : (s.ctrlReset).bitmap = s.bitmap := rfl
@[simp] theorem State.ctrlReset_uploadCursor : (s.ctrlReset).uploadCursor = s.uploadCursor := rfl
@[simp] theorem State.ctrlReset_cursorLoaded : (s.ctrlReset).cursorLoaded = s.cursorLoaded := rfl
@[simp] theorem State.ctrlReset_vram : (s.ctrlReset).vram = s.vram := rfl
@[simp] theorem State.ctrlReset_dirty : (s.ctrlReset).dirty = true := rfl
@[simp] theorem State.ctrlReset_surface : (s.ctrlReset).surface = s.surface := rfl
@[simp] theorem State.ctrlReset_diag : (s.ctrlReset).diag = s.diag := rfl
@[simp] theorem State.ctrlReset_render : (s.ctrlReset).render = s.render := rfl
@[simp] theorem State.ctrlReset_input : (s.ctrlReset).input = s.input := rfl
@[simp] theorem State.ctrlReset_sched : (s.ctrlReset).sched = s.sched := rfl
@[simp] theorem State.ctrlReset_out : (s.ctrlReset).out = s.out := rfl
@[simp] theorem State.ctrlReset_draws : (s.ctrlReset).draws = s.draws := rfl

@[simp] theorem State.programMode_params (w h bpp : Word) : (s.programMode w h bpp).params = s.params := rfl
@[simp] theorem State.programMode_control (w h bpp : Word) : (s.programMode w h bpp).control = s.control := rfl
@[simp] theorem State.programMode_fbAddr (w h bpp : Word) : (s.programMode w h bpp).fbAddr = 0 := rfl
@[simp] theorem State.programMode_fbWidth (w h bpp : Word) : (s.programMode w h bpp).fbWidth = w := rfl
@[simp] theorem State.programMode_fbHeight (w h bpp : Word) : (s.programMode w h bpp).fbHeight = h := rfl
@[simp] theorem State.programMode_fbBpp (w h bpp : Word) : (s.programMode w h bpp).fbBpp = bpp := rfl
@[simp] theorem State.programMode_fbEnable (w h bpp : Word) : (s.programMode w h bpp).fbEnable = s.fbEnable := rfl
@[simp] theorem State.programMode_fbPitch (w h bpp : Word) : (s.programMode w h bpp).fbPitch = BitVec.ofNat 32 (pitchOf w bpp) := rfl
@[simp] theorem State.programMode_cursorX (w h bpp : Word) : (s.programMode w h bpp).cursorX = s.cursorX := rfl
@[simp] theorem State.programMode_cursorY (w h bpp : Word) : (s.programMode w h bpp).cursorY = s.cursorY := rfl
@[simp] theorem State.programMode_cursorEnable (w h bpp : Word) : (s.programMode w h bpp).cursorEnable = s.cursorEnable := rfl
@[simp] theorem State.programMode_hotspotX (w h bpp : Word) : (s.programMode w h bpp).hotspotX = s.hotspotX := rfl
@[simp] theorem State.programMode_hotspotY (w h bpp : Word) : (s.programMode w h bpp).hotspotY = s.hotspotY := rfl
@[simp] theorem State.programMode_fbCount (w h bpp : Word) : (s.programMode w h bpp).fbCount = s.fbCount := rfl
@[simp] theorem State.programMode_fbSize (w h bpp : Word) : (s.programMode w h bpp).fbSize = s.fbSize := rfl
@[simp] theorem State.programMode_current (w h bpp : Word) : (s.programMode w h bpp).current = s.current := rfl
@[simp] theorem State.programMode_next (w h bpp : Word) : (s.programMode w h bpp).next = s.next := rfl
@[simp] theorem State.programMode_pending (w h bpp : Word) : (s.programMode w h bpp).pending = s.pending := rfl
@[simp] theorem State.programMode_vblankCount (w h bpp : Word) : (s.programMode w h bpp).vblankCount = s.vblankCount := rfl
@[simp] theorem State.programMode_bitmap (w h bpp : Word) : (s.programMode w h bpp).bitmap = s.bitmap := rfl
@[simp] theorem State.programMode_uploadCursor (w h bpp : Word) : (s.programMode w h bpp).uploadCursor = s.uploadCursor := rfl
@[simp] theorem State.programMode_cursorLoaded (w h bpp : Word) : (s.programMode w h bpp).cursorLoaded = s.cursorLoaded := rfl
@[simp] theorem State.programMode_vram (w h bpp : Word) : (s.programMode w h bpp).vram = s.vram := rfl
@[simp] theorem State.programMode_dirty (w h bpp : Word) : (s.programMode w h bpp).dirty = true := rfl
@[simp] theorem State.programMode_surface (w h bpp : Word) : (s.programMode w h bpp).surface = s.surface := rfl
@[simp] theorem State.programMode_diag (w h bpp : Word) : (s.programMode w h bpp).diag = s.diag := rfl
@[simp] theorem State.programMode_render (w h bpp : Word) : (s.programMode w h bpp).render = s.render := rfl
@[simp] theorem State.programMode_input (w h bpp : Word) : (s.programMode w h bpp).input = s.input := rfl
@[simp] theorem State.programMode_sched (w h bpp : Word) : (s.programMode w h bpp).sched = s.sched := rfl
@[simp] theorem State.programMode_out (w h bpp : Word) : (s.programMode w h bpp).out = s.out := rfl
@[simp] theorem State.programMode_draws (w h bpp : Word) : (s.programMode w h bpp).draws = s.draws := rfl

end Sys2Proof.Machine
end

