-- ==== Sys2Proof/Laws/Ops.lean ====
section
/-! SUPPORT. What each shared operation of the RegisterBank, the FramebufferManager and the CursorOverlay can do,
said once. -/

namespace Sys2Proof.Machine

/-! ## Completion -/

theorem completeWrite_eq (s : State) : completeWrite s = .next (s.respond .done) := rfl

theorem completeRead_eq (x : Word) (sz : AccessSize) (s : State) :
    completeRead x sz s = .next (s.respond (.data (shapeRead x sz))) := rfl

theorem completeCommand_eq (r : ResultCode × State) :
    completeCommand r = .next (r.2.respond (.result r.1 .none)) := rfl

/-! ## Register-port shaping (40_register_bank.md R101, R102) -/

theorem sizeBytes_cases (sz : AccessSize) :
    sizeBytes sz = 1 ∨ sizeBytes sz = 2 ∨ sizeBytes sz = 4 ∨ sizeBytes sz = 8 := by
  cases sz <;> simp [sizeBytes]

theorem shapeRead_toNat (x : Word) (sz : AccessSize) :
    (shapeRead x sz).toNat = x.toNat % 2 ^ (8 * sizeBytes sz) := by
  have h : x.toNat % 2 ^ (8 * sizeBytes sz) ≤ x.toNat := Nat.mod_le _ _
  have hx := x.isLt
  simp only [shapeRead, truncNat, BitVec.toNat_ofNat]
  exact Nat.mod_eq_of_lt (by omega)

theorem shapeWrite_toNat (d : Data) (sz : AccessSize) :
    (shapeWrite d sz).toNat = d.toNat % 2 ^ (min (8 * sizeBytes sz) 32) := by
  have h : d.toNat % 2 ^ (min (8 * sizeBytes sz) 32) < 2 ^ (min (8 * sizeBytes sz) 32) :=
    Nat.mod_lt _ (by positivity)
  have h2 : 2 ^ (min (8 * sizeBytes sz) 32) ≤ 2 ^ 32 := Nat.pow_le_pow_right (by omega) (by omega)
  simp only [shapeWrite, truncNat, BitVec.toNat_ofNat]
  exact Nat.mod_eq_of_lt (by omega)

/-! ## RegisterBank -/

theorem writeControl_reset {s : State} {v : Word} (h : v.toNat % 2 = 1) :
    s.writeControl v = State.ctrlReset { s with control := v &&& ~~~3 } := by
  simp [State.writeControl, h]

theorem writeControl_store {s : State} {v : Word} (h : v.toNat % 2 = 0) :
    s.writeControl v = { s with control := v } := by
  simp [State.writeControl, h]

theorem writeFbEnable_transition {s : State} {v : Word} (h : s.fbEnable = 0) (hv : v ≠ 0) :
    s.writeFbEnable v =
      { s with
        fbEnable := v
        surface := { w := s.fbWidth, h := s.fbHeight, px := .unspecified s.draws }
        draws := s.draws + 1
        dirty := true } := by
  rw [State.writeFbEnable, if_pos ⟨h, hv⟩]
  rfl

theorem writeFbEnable_store {s : State} {v : Word} (h : s.fbEnable ≠ 0 ∨ v = 0) :
    s.writeFbEnable v = { s with fbEnable := v } := by
  rw [State.writeFbEnable, if_neg]
  rintro ⟨h1, h2⟩
  exact h.elim (absurd h1) (absurd · h2)

/-! ## FramebufferManager -/

/-- `setup_single` answers in one of two ways (41_framebuffer_manager.md R150). -/
theorem setupSingle_cases (s : State) (w h bpp : Word) :
    (s.params.vramSize < bufferSize w h bpp ∧ s.setupSingle w h bpp = (.outOfMemory, s)) ∨
    (bufferSize w h bpp ≤ s.params.vramSize ∧ s.setupSingle w h bpp = (.ok, s.programMode w h bpp)) := by
  unfold State.setupSingle
  split
  · exact .inl ⟨‹_›, rfl⟩
  · exact .inr ⟨by omega, rfl⟩

/-- `setup_multi` answers in one of three ways (41_framebuffer_manager.md R151). -/
theorem setupMulti_cases (s : State) (count w h bpp : Word) :
    ((4 < count.toNat ∨ count.toNat = 0) ∧ s.setupMulti count w h bpp = (.invalidArgument, s)) ∨
    (1 ≤ count.toNat ∧ count.toNat ≤ 4 ∧ s.params.vramSize < bufferSize w h bpp * count.toNat ∧
      s.setupMulti count w h bpp = (.outOfMemory, s)) ∨
    (1 ≤ count.toNat ∧ count.toNat ≤ 4 ∧ bufferSize w h bpp * count.toNat ≤ s.params.vramSize ∧
      s.setupMulti count w h bpp =
        (.ok, State.programMode
          { s with fbCount := count, fbSize := bufferSize w h bpp, current := 0, next := 0, pending := false }
          w h bpp)) := by
  have hm : Config.maxFb = 4 := rfl
  by_cases h1 : count.toNat > Config.maxFb ∨ count.toNat = 0
  · exact .inl ⟨hm ▸ h1, by rw [State.setupMulti, if_pos h1]⟩
  · by_cases h2 : bufferSize w h bpp * count.toNat > s.params.vramSize
    · exact .inr (.inl ⟨by omega, by omega, h2, by rw [State.setupMulti, if_neg h1, if_pos h2]⟩)
    · exact .inr (.inr ⟨by omega, by omega, by omega, by rw [State.setupMulti, if_neg h1, if_neg h2]⟩)

/-- `request_flip` answers in one of three ways (41_framebuffer_manager.md R152). -/
theorem requestFlip_cases (s : State) (t : Word) :
    (s.fbCount.toNat ≤ t.toNat ∧ s.requestFlip t = (.invalidArgument, s)) ∨
    (t.toNat < s.fbCount.toNat ∧ s.pending = true ∧ s.requestFlip t = (.busy, s)) ∨
    (t.toNat < s.fbCount.toNat ∧ s.pending = false ∧
      s.requestFlip t =
        (.ok,
          { s with
            next := t
            current := t
            pending := false
            vblankCount := s.vblankCount + 1
            dirty := true
            fbAddr := BitVec.ofNat 32 (t.toNat * s.fbSize) })) := by
  by_cases h1 : s.fbCount.toNat ≤ t.toNat
  · exact .inl ⟨h1, by rw [State.requestFlip, if_pos h1]⟩
  · cases h2 : s.pending
    · exact .inr (.inr ⟨by omega, rfl, by simp [State.requestFlip, h1, h2]⟩)
    · exact .inr (.inl ⟨by omega, rfl, by simp [State.requestFlip, h1, h2]⟩)

@[simp] theorem absorbFailure_ok (off : Off) (s : State) : absorbFailure off (.ok, s) = s := rfl

theorem absorbFailure_error {off : Off} {r : ResultCode × State} (h : r.1 ≠ .ok) :
    absorbFailure off r = r.2.logDiag .rejectedWrite off := by
  obtain ⟨c, s⟩ := r
  cases c <;> first | exact absurd rfl h | rfl

/-! ## CursorOverlay -/

/-- `upload_pixel` stores one pixel and advances, or completes an image (42_cursor_overlay.md R204). -/
theorem uploadPixel_cases (s : State) (p : Word) :
    (∃ h : s.uploadCursor.val + 1 < 4096, s.uploadPixel p =
      { s with
        bitmap := s.bitmap.set s.uploadCursor.val p s.uploadCursor.isLt
        uploadCursor := ⟨s.uploadCursor.val + 1, h⟩ }) ∨
    (s.uploadCursor.val = 4095 ∧ s.uploadPixel p =
      { s with
        bitmap := s.bitmap.set s.uploadCursor.val p s.uploadCursor.isLt
        uploadCursor := 0
        cursorLoaded := true
        dirty := true }) := by
  by_cases h : s.uploadCursor.val + 1 < 4096
  · exact .inl ⟨h, by simp [State.uploadPixel, h]⟩
  · have := s.uploadCursor.isLt
    exact .inr ⟨by omega, by simp [State.uploadPixel, h]⟩

@[simp] theorem uploadPixels_nil (s : State) : s.uploadPixels [] = s := rfl

@[simp] theorem uploadPixels_cons (s : State) (p : Word) (ps : List Word) :
    s.uploadPixels (p :: ps) = (s.uploadPixel p).uploadPixels ps := rfl

/-- An upload changes the bitmap, the upload cursor, the loaded bit and dirty, and nothing else. -/
theorem uploadPixels_frame (s : State) (ps : List Word) :
    s.uploadPixels ps =
      { s with
        bitmap := (s.uploadPixels ps).bitmap
        uploadCursor := (s.uploadPixels ps).uploadCursor
        cursorLoaded := (s.uploadPixels ps).cursorLoaded
        dirty := (s.uploadPixels ps).dirty } := by
  induction ps generalizing s with
  | nil => rfl
  | cons p r ih =>
    rw [uploadPixels_cons]
    rcases uploadPixel_cases s p with ⟨h, e⟩ | ⟨-, e⟩ <;> rw [e, ih]

theorem uploadBulk_cases (s : State) (count : Word) (pixels : List Word) :
    ((4096 < count.toNat ∨ pixels.length < count.toNat) ∧ s.uploadBulk count pixels = (.invalidArgument, s)) ∨
    (count.toNat ≤ 4096 ∧ count.toNat ≤ pixels.length ∧
      s.uploadBulk count pixels = (.ok, s.uploadPixels (pixels.take count.toNat))) := by
  have hm : Config.cursorPixels = 4096 := rfl
  by_cases h1 : count.toNat > Config.cursorPixels ∨ count.toNat > pixels.length
  · exact .inl ⟨hm ▸ h1, by rw [State.uploadBulk, if_pos h1]⟩
  · exact .inr ⟨by omega, by omega, by rw [State.uploadBulk, if_neg h1]⟩

end Sys2Proof.Machine
end

