-- ==== Sys2Proof/Laws/Compositor.lean ====
section
/-! SUPPORT. The Compositor: sizes of its buffers, what its last step writes, and what a step inside a render
can do. -/

namespace Sys2Proof.Machine

/-! ## Sizes -/

@[simp] theorem fill_size (job : RenderJob) (vram : Memory) (sc : Array Byte) (j : Nat) :
    (job.fill vram sc j).size = sc.size := by
  simp [RenderJob.fill]

theorem foldl_fill_size (job : RenderJob) (vram : Memory) (js : List Nat) (sc : Array Byte) :
    (js.foldl (job.fill vram) sc).size = sc.size := by
  induction js generalizing sc with
  | nil => rfl
  | cons j r ih => rw [List.foldl_cons, ih, fill_size]

@[simp] theorem scratchPixels_size (w h : Word) (sc : Array Byte) :
    (scratchPixels w h sc).size = w.toNat * h.toNat := by
  simp [scratchPixels]

@[simp] theorem overlayPixel_size (w h : Word) (cur : CursorShot) (k : Nat) (p : Word) (px : Array Word) :
    (overlayPixel w h cur k p px).size = px.size := by
  simp only [overlayPixel]
  split <;> simp

@[simp] theorem overlayFrom_size (w h : Word) (cur : CursorShot) (k : Nat) (ps : List Word) (px : Array Word) :
    (overlayFrom w h cur k ps px).size = px.size := by
  induction ps generalizing k px with
  | nil => rfl
  | cons p r ih => rw [overlayFrom, ih, overlayPixel_size]

@[simp] theorem overlayCursor_size (w h : Word) (cur : CursorShot) (px : Array Word) :
    (overlayCursor w h cur px).size = px.size := by
  unfold overlayCursor
  split <;> simp

/-! ## The last step (43_compositor.md R246, R248) -/

/-- The last step writes the surface and dirty, ends the render and returns Rendered, and nothing else. -/
theorem present_eq (s : State) (job : RenderJob) (sc : Array Byte) :
    s.present job sc =
      { s with
        surface := (s.present job sc).surface
        dirty := false
        render := none
        out := s.out ++ [.status .rendered] } := rfl

theorem finishRender_eq (s : State) (job : RenderJob) :
    s.finishRender job = s.present job (job.readRest s.vram) := rfl

/-! ## Steps inside a render -/

theorem renderAdvance_nil {s : State} {job : RenderJob} (h : job.todo = []) (pick : Nat) :
    s.renderAdvance job pick = s.present job job.scratch := by
  simp [State.renderAdvance, h]

theorem renderAdvance_cons {s : State} {job : RenderJob} (h : job.todo ≠ []) (pick : Nat) :
    s.renderAdvance job pick = { s with render := some (job.readByte s.vram pick) } := by
  unfold State.renderAdvance
  split
  · exact absurd ‹_› h
  · rfl

/-- One byte read takes one scratch byte off the list and fills it. -/
theorem readByte_cases (job : RenderJob) (vram : Memory) (pick : Nat) (h : job.todo ≠ []) :
    ∃ k j, k < job.todo.length ∧ job.todo[k]? = some j ∧
      job.readByte vram pick =
        { job with todo := job.todo.eraseIdx k, scratch := job.fill vram job.scratch j } := by
  have hlen : 0 < job.todo.length := List.length_pos_iff.mpr h
  have hk : pick % job.todo.length < job.todo.length := Nat.mod_lt _ hlen
  refine ⟨pick % job.todo.length, job.todo[pick % job.todo.length], hk, List.getElem?_eq_getElem hk, ?_⟩
  simp only [RenderJob.readByte, List.getElem?_eq_getElem hk]

/-- The only operation a step runs inside a render is an offered VRAM-port transaction (43_compositor.md R247). -/
theorem insideRenderStep_cases (job : RenderJob) (s : State) :
    (s.sched = [] ∧ insideRenderStep job s = .next (s.finishRender job)) ∨
    (∃ pick cs, insideRenderStep job s = .next (State.renderAdvance { s with sched := cs } job pick)) ∨
    (∃ i rest cs, i.port = .vram ∧ decode s.input = .ok i rest ∧
      insideRenderStep job s = exec i { s with sched := cs, input := rest }) := by
  unfold insideRenderStep
  split
  · exact .inl ⟨‹_›, rfl⟩
  · exact .inr (.inl ⟨_, _, rfl⟩)
  · next cs _ =>
    split
    · next i rest ho =>
      unfold State.offeredVram at ho
      split at ho
      · next j r hd =>
        split at ho
        · next hp =>
          obtain ⟨rfl, rfl⟩ := Prod.mk.inj (Option.some.inj ho)
          exact .inr (.inr ⟨_, _, cs, hp, hd, rfl⟩)
        · cases ho
      · cases ho
    · exact .inr (.inl ⟨0, cs, rfl⟩)

end Sys2Proof.Machine
end

