-- ==== Sys2Proof/Laws/PerInstr.lean ====
section
/-! SUPPORT. Family TableRow: the encoder gives every constructor the header bits its row of
spec/opcode_table.json fixes. -/

namespace Sys2Proof.Laws.TableRow

/-- A field the table fixes: bits hi:lo hold value. -/
structure Fixed where
  hi : Nat
  lo : Nat
  value : Nat

/-- A register row: RSV and OFF (bits 26:0), then PORT and W (bits 31:29). -/
def regRow (w off : Nat) : List Fixed := [⟨26, 0, off⟩, ⟨31, 29, w⟩]

/-- The fields the table fixes in a constructor's row. -/
def fixed : Instr → List Fixed
  | .rdDeviceId _ => regRow 0 0x000
  | .wrDeviceId _ _ => regRow 1 0x000
  | .rdStatus _ => regRow 0 0x004
  | .wrStatus _ _ => regRow 1 0x004
  | .rdControl _ => regRow 0 0x008
  | .wrControl _ _ => regRow 1 0x008
  | .rdFbAddr _ => regRow 0 0x00C
  | .wrFbAddr _ _ => regRow 1 0x00C
  | .rdFbWidth _ => regRow 0 0x010
  | .wrFbWidth _ _ => regRow 1 0x010
  | .rdFbHeight _ => regRow 0 0x014
  | .wrFbHeight _ _ => regRow 1 0x014
  | .rdFbBpp _ => regRow 0 0x018
  | .wrFbBpp _ _ => regRow 1 0x018
  | .rdFbEnable _ => regRow 0 0x01C
  | .wrFbEnable _ _ => regRow 1 0x01C
  | .rdFbPitch _ => regRow 0 0x020
  | .wrFbPitch _ _ => regRow 1 0x020
  | .rdCursorX _ => regRow 0 0x024
  | .wrCursorX _ _ => regRow 1 0x024
  | .rdCursorY _ => regRow 0 0x028
  | .wrCursorY _ _ => regRow 1 0x028
  | .rdCursorEnable _ => regRow 0 0x02C
  | .wrCursorEnable _ _ => regRow 1 0x02C
  | .rdCursorHotspotX _ => regRow 0 0x030
  | .wrCursorHotspotX _ _ => regRow 1 0x030
  | .rdCursorHotspotY _ => regRow 0 0x034
  | .wrCursorHotspotY _ _ => regRow 1 0x034
  | .rdCursorUpload _ => regRow 0 0x038
  | .wrCursorUpload _ _ => regRow 1 0x038
  | .rdFbCount _ => regRow 0 0x03C
  | .wrFbCount _ _ => regRow 1 0x03C
  | .rdFbCurrent _ => regRow 0 0x040
  | .wrFbCurrent _ _ => regRow 1 0x040
  | .rdFbNext _ => regRow 0 0x044
  | .wrFbNext _ _ => regRow 1 0x044
  | .rdPageFlip _ => regRow 0 0x048
  | .wrPageFlip _ _ => regRow 1 0x048
  | .rdFlipPending _ => regRow 0 0x04C
  | .wrFlipPending _ _ => regRow 1 0x04C
  | .rdVblankCount _ => regRow 0 0x050
  | .wrVblankCount _ _ => regRow 1 0x050
  | .rdUnmapped _ _ => [⟨26, 12, 0x0⟩, ⟨31, 29, 0x0⟩]
  | .wrUnmapped _ _ _ => [⟨26, 12, 0x0⟩, ⟨31, 29, 0x1⟩]
  | .vrd _ _ => regRow 2 0x000
  | .vwr _ _ _ => regRow 3 0x000
  | .setupSingle _ _ _ => [⟨31, 0, 0x80000001⟩]
  | .setupMulti _ _ _ _ => [⟨31, 0, 0x80000002⟩]
  | .requestFlip _ _ => [⟨31, 0, 0x80000003⟩]
  | .waitForFlip _ => [⟨31, 0, 0x80000004⟩]
  | .describe => [⟨31, 0, 0x80000005⟩]
  | .getVramSize => [⟨31, 0, 0x80000006⟩]
  | .enableDisplay _ => [⟨31, 0, 0x80000007⟩]
  | .setPosition _ _ => [⟨31, 0, 0x80000008⟩]
  | .setHotspot _ _ => [⟨31, 0, 0x80000009⟩]
  | .setEnabled _ => [⟨31, 0, 0x8000000A⟩]
  | .uploadPixel _ => [⟨31, 0, 0x8000000B⟩]
  | .uploadBulk _ _ => [⟨31, 0, 0x8000000C⟩]
  | .render => [⟨31, 0, 0xC0000000⟩]

/-- The header of the constructor's words has the bits its table row fixes (30_encoding.md R81, R87). -/
def Statement (i : Instr) : Prop :=
  ∃ h ops, encode i = h :: ops ∧ ∀ f ∈ fixed i, h.toNat / 2 ^ f.lo % 2 ^ (f.hi + 1 - f.lo) = f.value

/-- The fixed fields of a register or VRAM row. -/
theorem regRow_holds (port w off : Nat) (sz : AccessSize) (hp : port < 4) (hw : w < 2) (ho : off < 4096) :
    ∀ f ∈ regRow (2 * port + w) off,
      (mkHeader port w (szOfSize sz) off).toNat / 2 ^ f.lo % 2 ^ (f.hi + 1 - f.lo) = f.value := by
  intro f hf
  simp only [regRow, List.mem_cons, List.not_mem_nil, or_false] at hf
  rcases hf with rfl | rfl <;> cases sz <;> simp [mkHeader, szOfSize] <;> omega

/-- The fixed field of a command or render row: the whole header. -/
theorem wholeRow_holds (port cmd : Nat) (hp : port < 4) (hc : cmd < 4096) :
    ∀ f ∈ [(⟨31, 0, port * 2 ^ 30 + cmd⟩ : Fixed)],
      (mkHeader port 0 0 cmd).toNat / 2 ^ f.lo % 2 ^ (f.hi + 1 - f.lo) = f.value := by
  intro f hf
  simp only [List.mem_cons, List.not_mem_nil, or_false] at hf
  subst hf
  simp [mkHeader]
  omega

theorem rdDeviceId (sz : AccessSize) : Statement (.rdDeviceId sz) :=
  ⟨_, _, rfl, regRow_holds 0 0 0x000 sz (by decide) (by decide) (by decide)⟩
theorem wrDeviceId (sz : AccessSize) (data : Data) : Statement (.wrDeviceId sz data) :=
  ⟨_, _, rfl, regRow_holds 0 1 0x000 sz (by decide) (by decide) (by decide)⟩
theorem rdStatus (sz : AccessSize) : Statement (.rdStatus sz) :=
  ⟨_, _, rfl, regRow_holds 0 0 0x004 sz (by decide) (by decide) (by decide)⟩
theorem wrStatus (sz : AccessSize) (data : Data) : Statement (.wrStatus sz data) :=
  ⟨_, _, rfl, regRow_holds 0 1 0x004 sz (by decide) (by decide) (by decide)⟩
theorem rdControl (sz : AccessSize) : Statement (.rdControl sz) :=
  ⟨_, _, rfl, regRow_holds 0 0 0x008 sz (by decide) (by decide) (by decide)⟩
theorem wrControl (sz : AccessSize) (data : Data) : Statement (.wrControl sz data) :=
  ⟨_, _, rfl, regRow_holds 0 1 0x008 sz (by decide) (by decide) (by decide)⟩
theorem rdFbAddr (sz : AccessSize) : Statement (.rdFbAddr sz) :=
  ⟨_, _, rfl, regRow_holds 0 0 0x00C sz (by decide) (by decide) (by decide)⟩
theorem wrFbAddr (sz : AccessSize) (data : Data) : Statement (.wrFbAddr sz data) :=
  ⟨_, _, rfl, regRow_holds 0 1 0x00C sz (by decide) (by decide) (by decide)⟩
theorem rdFbWidth (sz : AccessSize) : Statement (.rdFbWidth sz) :=
  ⟨_, _, rfl, regRow_holds 0 0 0x010 sz (by decide) (by decide) (by decide)⟩
theorem wrFbWidth (sz : AccessSize) (data : Data) : Statement (.wrFbWidth sz data) :=
  ⟨_, _, rfl, regRow_holds 0 1 0x010 sz (by decide) (by decide) (by decide)⟩
theorem rdFbHeight (sz : AccessSize) : Statement (.rdFbHeight sz) :=
  ⟨_, _, rfl, regRow_holds 0 0 0x014 sz (by decide) (by decide) (by decide)⟩
theorem wrFbHeight (sz : AccessSize) (data : Data) : Statement (.wrFbHeight sz data) :=
  ⟨_, _, rfl, regRow_holds 0 1 0x014 sz (by decide) (by decide) (by decide)⟩
theorem rdFbBpp (sz : AccessSize) : Statement (.rdFbBpp sz) :=
  ⟨_, _, rfl, regRow_holds 0 0 0x018 sz (by decide) (by decide) (by decide)⟩
theorem wrFbBpp (sz : AccessSize) (data : Data) : Statement (.wrFbBpp sz data) :=
  ⟨_, _, rfl, regRow_holds 0 1 0x018 sz (by decide) (by decide) (by decide)⟩
theorem rdFbEnable (sz : AccessSize) : Statement (.rdFbEnable sz) :=
  ⟨_, _, rfl, regRow_holds 0 0 0x01C sz (by decide) (by decide) (by decide)⟩
theorem wrFbEnable (sz : AccessSize) (data : Data) : Statement (.wrFbEnable sz data) :=
  ⟨_, _, rfl, regRow_holds 0 1 0x01C sz (by decide) (by decide) (by decide)⟩
theorem rdFbPitch (sz : AccessSize) : Statement (.rdFbPitch sz) :=
  ⟨_, _, rfl, regRow_holds 0 0 0x020 sz (by decide) (by decide) (by decide)⟩
theorem wrFbPitch (sz : AccessSize) (data : Data) : Statement (.wrFbPitch sz data) :=
  ⟨_, _, rfl, regRow_holds 0 1 0x020 sz (by decide) (by decide) (by decide)⟩
theorem rdCursorX (sz : AccessSize) : Statement (.rdCursorX sz) :=
  ⟨_, _, rfl, regRow_holds 0 0 0x024 sz (by decide) (by decide) (by decide)⟩
theorem wrCursorX (sz : AccessSize) (data : Data) : Statement (.wrCursorX sz data) :=
  ⟨_, _, rfl, regRow_holds 0 1 0x024 sz (by decide) (by decide) (by decide)⟩
theorem rdCursorY (sz : AccessSize) : Statement (.rdCursorY sz) :=
  ⟨_, _, rfl, regRow_holds 0 0 0x028 sz (by decide) (by decide) (by decide)⟩
theorem wrCursorY (sz : AccessSize) (data : Data) : Statement (.wrCursorY sz data) :=
  ⟨_, _, rfl, regRow_holds 0 1 0x028 sz (by decide) (by decide) (by decide)⟩
theorem rdCursorEnable (sz : AccessSize) : Statement (.rdCursorEnable sz) :=
  ⟨_, _, rfl, regRow_holds 0 0 0x02C sz (by decide) (by decide) (by decide)⟩
theorem wrCursorEnable (sz : AccessSize) (data : Data) : Statement (.wrCursorEnable sz data) :=
  ⟨_, _, rfl, regRow_holds 0 1 0x02C sz (by decide) (by decide) (by decide)⟩
theorem rdCursorHotspotX (sz : AccessSize) : Statement (.rdCursorHotspotX sz) :=
  ⟨_, _, rfl, regRow_holds 0 0 0x030 sz (by decide) (by decide) (by decide)⟩
theorem wrCursorHotspotX (sz : AccessSize) (data : Data) : Statement (.wrCursorHotspotX sz data) :=
  ⟨_, _, rfl, regRow_holds 0 1 0x030 sz (by decide) (by decide) (by decide)⟩
theorem rdCursorHotspotY (sz : AccessSize) : Statement (.rdCursorHotspotY sz) :=
  ⟨_, _, rfl, regRow_holds 0 0 0x034 sz (by decide) (by decide) (by decide)⟩
theorem wrCursorHotspotY (sz : AccessSize) (data : Data) : Statement (.wrCursorHotspotY sz data) :=
  ⟨_, _, rfl, regRow_holds 0 1 0x034 sz (by decide) (by decide) (by decide)⟩
theorem rdCursorUpload (sz : AccessSize) : Statement (.rdCursorUpload sz) :=
  ⟨_, _, rfl, regRow_holds 0 0 0x038 sz (by decide) (by decide) (by decide)⟩
theorem wrCursorUpload (sz : AccessSize) (data : Data) : Statement (.wrCursorUpload sz data) :=
  ⟨_, _, rfl, regRow_holds 0 1 0x038 sz (by decide) (by decide) (by decide)⟩
theorem rdFbCount (sz : AccessSize) : Statement (.rdFbCount sz) :=
  ⟨_, _, rfl, regRow_holds 0 0 0x03C sz (by decide) (by decide) (by decide)⟩
theorem wrFbCount (sz : AccessSize) (data : Data) : Statement (.wrFbCount sz data) :=
  ⟨_, _, rfl, regRow_holds 0 1 0x03C sz (by decide) (by decide) (by decide)⟩
theorem rdFbCurrent (sz : AccessSize) : Statement (.rdFbCurrent sz) :=
  ⟨_, _, rfl, regRow_holds 0 0 0x040 sz (by decide) (by decide) (by decide)⟩
theorem wrFbCurrent (sz : AccessSize) (data : Data) : Statement (.wrFbCurrent sz data) :=
  ⟨_, _, rfl, regRow_holds 0 1 0x040 sz (by decide) (by decide) (by decide)⟩
theorem rdFbNext (sz : AccessSize) : Statement (.rdFbNext sz) :=
  ⟨_, _, rfl, regRow_holds 0 0 0x044 sz (by decide) (by decide) (by decide)⟩
theorem wrFbNext (sz : AccessSize) (data : Data) : Statement (.wrFbNext sz data) :=
  ⟨_, _, rfl, regRow_holds 0 1 0x044 sz (by decide) (by decide) (by decide)⟩
theorem rdPageFlip (sz : AccessSize) : Statement (.rdPageFlip sz) :=
  ⟨_, _, rfl, regRow_holds 0 0 0x048 sz (by decide) (by decide) (by decide)⟩
theorem wrPageFlip (sz : AccessSize) (data : Data) : Statement (.wrPageFlip sz data) :=
  ⟨_, _, rfl, regRow_holds 0 1 0x048 sz (by decide) (by decide) (by decide)⟩
theorem rdFlipPending (sz : AccessSize) : Statement (.rdFlipPending sz) :=
  ⟨_, _, rfl, regRow_holds 0 0 0x04C sz (by decide) (by decide) (by decide)⟩
theorem wrFlipPending (sz : AccessSize) (data : Data) : Statement (.wrFlipPending sz data) :=
  ⟨_, _, rfl, regRow_holds 0 1 0x04C sz (by decide) (by decide) (by decide)⟩
theorem rdVblankCount (sz : AccessSize) : Statement (.rdVblankCount sz) :=
  ⟨_, _, rfl, regRow_holds 0 0 0x050 sz (by decide) (by decide) (by decide)⟩
theorem wrVblankCount (sz : AccessSize) (data : Data) : Statement (.wrVblankCount sz data) :=
  ⟨_, _, rfl, regRow_holds 0 1 0x050 sz (by decide) (by decide) (by decide)⟩
theorem rdUnmapped (sz : AccessSize) (off : Off) : Statement (.rdUnmapped sz off) :=
  ⟨_, _, rfl, by
    have hoff := off.isLt
    intro f hf
    simp only [fixed, List.mem_cons, List.not_mem_nil, or_false] at hf
    rcases hf with rfl | rfl <;> cases sz <;> simp [mkHeader, szOfSize] <;> omega⟩
theorem wrUnmapped (sz : AccessSize) (off : Off) (data : Data) : Statement (.wrUnmapped sz off data) :=
  ⟨_, _, rfl, by
    have hoff := off.isLt
    intro f hf
    simp only [fixed, List.mem_cons, List.not_mem_nil, or_false] at hf
    rcases hf with rfl | rfl <;> cases sz <;> simp [mkHeader, szOfSize] <;> omega⟩
theorem vrd (sz : AccessSize) (addr : Word) : Statement (.vrd sz addr) :=
  ⟨_, _, rfl, regRow_holds 1 0 0x000 sz (by decide) (by decide) (by decide)⟩
theorem vwr (sz : AccessSize) (addr : Word) (data : Data) : Statement (.vwr sz addr data) :=
  ⟨_, _, rfl, regRow_holds 1 1 0x000 sz (by decide) (by decide) (by decide)⟩
theorem setupSingle (w : Word) (h : Word) (bpp : Word) : Statement (.setupSingle w h bpp) :=
  ⟨_, _, rfl, wholeRow_holds 2 1 (by decide) (by decide)⟩
theorem setupMulti (count : Word) (w : Word) (h : Word) (bpp : Word) : Statement (.setupMulti count w h bpp) :=
  ⟨_, _, rfl, wholeRow_holds 2 2 (by decide) (by decide)⟩
theorem requestFlip (index : Word) (wait : Word) : Statement (.requestFlip index wait) :=
  ⟨_, _, rfl, wholeRow_holds 2 3 (by decide) (by decide)⟩
theorem waitForFlip (budget : Word) : Statement (.waitForFlip budget) :=
  ⟨_, _, rfl, wholeRow_holds 2 4 (by decide) (by decide)⟩
theorem describe : Statement (.describe) :=
  ⟨_, _, rfl, wholeRow_holds 2 5 (by decide) (by decide)⟩
theorem getVramSize : Statement (.getVramSize) :=
  ⟨_, _, rfl, wholeRow_holds 2 6 (by decide) (by decide)⟩
theorem enableDisplay (b : Word) : Statement (.enableDisplay b) :=
  ⟨_, _, rfl, wholeRow_holds 2 7 (by decide) (by decide)⟩
theorem setPosition (x : Word) (y : Word) : Statement (.setPosition x y) :=
  ⟨_, _, rfl, wholeRow_holds 2 8 (by decide) (by decide)⟩
theorem setHotspot (x : Word) (y : Word) : Statement (.setHotspot x y) :=
  ⟨_, _, rfl, wholeRow_holds 2 9 (by decide) (by decide)⟩
theorem setEnabled (b : Word) : Statement (.setEnabled b) :=
  ⟨_, _, rfl, wholeRow_holds 2 10 (by decide) (by decide)⟩
theorem uploadPixel (argb : Word) : Statement (.uploadPixel argb) :=
  ⟨_, _, rfl, wholeRow_holds 2 11 (by decide) (by decide)⟩
theorem uploadBulk (count : Word) (pixels : List Word) : Statement (.uploadBulk count pixels) :=
  ⟨_, _, rfl, wholeRow_holds 2 12 (by decide) (by decide)⟩
theorem render : Statement (.render) :=
  ⟨_, _, rfl, wholeRow_holds 3 0 (by decide) (by decide)⟩

end Sys2Proof.Laws.TableRow
end

