-- ==== Sys2Proof/Tests/Slice0.lean ====
section
/-! SUPPORT. Tests on small states. Every expected result is from the spec: the vectors of 95_test_vectors.md by
their ids, or a rule's own example. -/

namespace Sys2Proof.Tests

open Sys2Proof.Machine

/-! ## WellFormed refuses each ill-formed term -/

theorem test_wf_refuses_read_of_mapped_offset : (Instr.rdUnmapped .s4 0x010).wf = false := by decide
theorem test_wf_refuses_write_of_mapped_offset : (Instr.wrUnmapped .s1 0x050 7).wf = false := by decide
theorem test_wf_refuses_list_too_long_for_its_length_word :
    (Instr.uploadBulk 0 (List.replicate (2 ^ 32) 0)).wf = false := by
  simp only [Instr.wf, List.length_replicate]
  decide
theorem test_wf_accepts : (Instr.rdUnmapped .s4 0x011).wf = true ∧ (Instr.wrUnmapped .s8 0xFFF 0).wf = true ∧
    (Instr.uploadBulk 3 [1, 2]).wf = true ∧ Instr.render.wf = true := by decide

/-! ## Decoding: header words written out from 30_encoding.md R81, R91 -/

/-- Every pair's words decode to its operation with nothing left. -/
def decodesTo (ps : List (List Word × Instr)) : Bool :=
  ps.all fun p => decide (decode p.1 = .ok p.2 [])

/-- `RD32` is 0x10000000 | OFF (30_encoding.md R91). -/
theorem test_decode_register_reads : decodesTo [
    ([0x10000000], .rdDeviceId .s4), ([0x10000004], .rdStatus .s4),
    ([0x10000008], .rdControl .s4), ([0x1000000C], .rdFbAddr .s4),
    ([0x10000010], .rdFbWidth .s4), ([0x10000014], .rdFbHeight .s4),
    ([0x10000018], .rdFbBpp .s4), ([0x1000001C], .rdFbEnable .s4),
    ([0x10000020], .rdFbPitch .s4), ([0x10000024], .rdCursorX .s4),
    ([0x10000028], .rdCursorY .s4), ([0x1000002C], .rdCursorEnable .s4),
    ([0x10000030], .rdCursorHotspotX .s4), ([0x10000034], .rdCursorHotspotY .s4),
    ([0x10000038], .rdCursorUpload .s4), ([0x1000003C], .rdFbCount .s4),
    ([0x10000040], .rdFbCurrent .s4), ([0x10000044], .rdFbNext .s4),
    ([0x10000048], .rdPageFlip .s4), ([0x1000004C], .rdFlipPending .s4),
    ([0x10000050], .rdVblankCount .s4)] = true := by decide

/-- `WR16` is 0x28000000 | OFF; DATA is two words, low first. -/
theorem test_decode_register_writes : decodesTo [
    ([0x28000000, 5, 6], .wrDeviceId .s2 0x600000005), ([0x28000004, 5, 6], .wrStatus .s2 0x600000005),
    ([0x28000008, 5, 6], .wrControl .s2 0x600000005), ([0x2800000C, 5, 6], .wrFbAddr .s2 0x600000005),
    ([0x28000010, 5, 6], .wrFbWidth .s2 0x600000005), ([0x28000014, 5, 6], .wrFbHeight .s2 0x600000005),
    ([0x28000018, 5, 6], .wrFbBpp .s2 0x600000005), ([0x2800001C, 5, 6], .wrFbEnable .s2 0x600000005),
    ([0x28000020, 5, 6], .wrFbPitch .s2 0x600000005), ([0x28000024, 5, 6], .wrCursorX .s2 0x600000005),
    ([0x28000028, 5, 6], .wrCursorY .s2 0x600000005), ([0x2800002C, 5, 6], .wrCursorEnable .s2 0x600000005),
    ([0x28000030, 5, 6], .wrCursorHotspotX .s2 0x600000005), ([0x28000034, 5, 6], .wrCursorHotspotY .s2 0x600000005),
    ([0x28000038, 5, 6], .wrCursorUpload .s2 0x600000005), ([0x2800003C, 5, 6], .wrFbCount .s2 0x600000005),
    ([0x28000040, 5, 6], .wrFbCurrent .s2 0x600000005), ([0x28000044, 5, 6], .wrFbNext .s2 0x600000005),
    ([0x28000048, 5, 6], .wrPageFlip .s2 0x600000005), ([0x2800004C, 5, 6], .wrFlipPending .s2 0x600000005),
    ([0x28000050, 5, 6], .wrVblankCount .s2 0x600000005)] = true := by decide

/-- The four sizes, and offsets that are not mapped (95_test_vectors.md T1, T3, T4, T16, T18). -/
theorem test_decode_sizes_and_unmapped : decodesTo [
    ([0x00000010], .rdFbWidth .s1), ([0x08000010], .rdFbWidth .s2), ([0x18000010], .rdFbWidth .s8),
    ([0x20000010, 0x1234, 0], .wrFbWidth .s1 0x1234),
    ([0x38000010, 0x320, 0x258], .wrFbWidth .s8 0x0000025800000320),
    ([0x10000054], .rdUnmapped .s4 0x054), ([0x00000FFF], .rdUnmapped .s1 0xFFF),
    ([0x30000100, 5, 0], .wrUnmapped .s4 0x100 5)] = true := by decide

/-- The VRAM port (95_test_vectors.md V1 to V5). -/
theorem test_decode_vram : decodesTo [
    ([0x40000000, 3], .vrd .s1 3), ([0x48000000, 1], .vrd .s2 1), ([0x50000000, 12], .vrd .s4 12),
    ([0x58000000, 0], .vrd .s8 0), ([0x60000000, 9, 0, 0], .vwr .s1 9 0),
    ([0x68000000, 16777214, 0xBEEF, 0], .vwr .s2 16777214 0xBEEF),
    ([0x70000000, 0x001D4C00, 0xFF00FF00, 0], .vwr .s4 0x001D4C00 0xFF00FF00),
    ([0x78000000, 8, 0x44332211, 0x88776655], .vwr .s8 8 0x8877665544332211)] = true := by decide

/-- The command and render ports (30_encoding.md R86, R90). -/
theorem test_decode_commands_and_render : decodesTo [
    ([0x80000001, 1024, 768, 32], .setupSingle 1024 768 32),
    ([0x80000002, 2, 800, 600, 32], .setupMulti 2 800 600 32),
    ([0x80000003, 1, 0], .requestFlip 1 0), ([0x80000004, 100], .waitForFlip 100),
    ([0x80000005], .describe), ([0x80000006], .getVramSize), ([0x80000007, 1], .enableDisplay 1),
    ([0x80000008, 10, 20], .setPosition 10 20), ([0x80000009, 5, 6], .setHotspot 5 6),
    ([0x8000000A, 7], .setEnabled 7), ([0x8000000B, 9], .uploadPixel 9),
    ([0x8000000C, 3, 2, 0xA, 0xB], .uploadBulk 3 [0xA, 0xB]), ([0xC0000000], .render)] = true := by decide

/-- Invalid headers, one for each clause of 30_encoding.md R88. -/
theorem test_decode_refuses_invalid_headers :
    ([0x10001010, 0x40000001, 0xA0000005, 0x88000005, 0x80000105, 0x80000000, 0x8000000D, 0xE0000000, 0xC8000000,
      0xC0000001] : List Word).all (fun h => decide (decode [h, 0, 0, 0] = .bad (.invalidHeader h))) = true := by
  decide

theorem test_decode_incomplete :
    decode [0x30000010, 5] = .bad (.incomplete 0x30000010) ∧
    decode [0x8000000C, 3, 2, 0xA] = .bad (.incomplete 0x8000000C) := by decide

/-! ## Single operations -/

/-- Attach, with a concrete bitmap and device identifier so that results are numerals. -/
def fresh : State :=
  { State.reset with
    bitmap := Vector.replicate 4096 0
    params := { vramSize := 16777216, deviceId := 0x1234ABCD, regBase := 0x10000, vramBase := 0x100000, pageSize := 4096, waitFlipPolls := 100 } }

/-- A component of the next state of an operation. -/
def after {α : Type} (i : Instr) (s : State) (f : State → α) : Option α :=
  match exec i s with
  | .next t => some (f t)
  | .fault _ => none
  | .refused _ => none

/-- What a read of a register returns, from a state. -/
def returned (i : Instr) (s : State) : Option (List Response) := after i s (·.out)

/-- After SETUP_MULTI 2, 800, 600, 32, dirty left false (95_test_vectors.md F5). -/
def two : State := { fresh with fbCount := 2 }

/-- After V1. -/
def v1 : State := { fresh with vram := [(0, 0x44), (1, 0x33), (2, 0x22), (3, 0x11)] }

/-- The mode of the gate and geometry vectors: 4 by 2, enabled, dirty. -/
def mode : State := { fresh with fbWidth := 4, fbHeight := 2, fbPitch := 16, fbEnable := 1, dirty := true }

/-- P2 before its render, with 8 opaque blue pixels and the three cursor pixels. -/
def p2 : State :=
  { mode with
    vram := (List.range 32).map fun i => (i, BitVec.ofNat 8 [0xFF, 0x00, 0x00, 0xFF][i % 4]!)
    bitmap := ((fresh.bitmap.set 0 0x80FF0000).set 1 0xFF00FF00).set 2 0x00FFFFFF
    cursorX := 1
    cursorEnable := 1
    cursorLoaded := true }

/-- R110 example. -/
theorem test_device_id_read_is_truncated :
    returned (.rdDeviceId .s2) fresh =
      some [.data 0xABCD] := by decide

/-- T5. -/
theorem test_device_id_write_is_absorbed :
    after (.wrDeviceId .s4 5) fresh (fun t => (t.diag, t.params.deviceId, t.dirty)) =
      some ([⟨.readOnlyWrite, 0x000⟩], 0x1234ABCD, false) := by decide

/-- T6, K9: READY is 1 and CURSOR_LOADED is bit 2. -/
theorem test_status_bits_but_the_free_one :
    (statusWord 0 false, statusWord 1 false, statusWord 0 true, statusWord 1 true) =
      (1, 3, 5, 7) := by decide

/-- T7. -/
theorem test_status_write_is_absorbed :
    after (.wrStatus .s4 0) fresh (·.diag) =
      some [⟨.readOnlyWrite, 0x004⟩] := by decide

/-- T1, T3. -/
theorem test_unmapped_read :
    (after (.rdUnmapped .s4 0x054) fresh (fun t => (t.out, t.diag)), after (.rdUnmapped .s1 0xFFF) fresh (·.diag)) =
      (some ([.data 0], [⟨.unmappedRead, 0x054⟩]), some [⟨.unmappedRead, 0xFFF⟩]) := by decide

/-- T2. -/
theorem test_read_past_the_register_space :
    after (.rdUnmapped .s4 0xFFE) fresh (fun t => (t.out, t.diag)) =
      some ([.data 0], [⟨.outOfRange, 0xFFE⟩]) := by decide

/-- T4, P4 line 3. -/
theorem test_unmapped_write :
    (after (.wrUnmapped .s4 0x100 5) fresh (fun t => (t.diag, t.dirty)), after (.wrUnmapped .s4 0x011 7) fresh (·.fbWidth)) =
      (some ([⟨.unmappedWrite, 0x100⟩], false), some 800) := by decide

/-- T8. -/
theorem test_control_store :
    after (.wrControl .s4 2) fresh (fun t => (t.control, t.dirty, t.fbWidth)) =
      some (2, false, 800) := by decide

/-- T9. -/
theorem test_control_reset :
    after (.wrControl .s4 0xFFFFFFFF) { fresh with fbWidth := 1024, fbPitch := 4096, fbEnable := 1 } (fun t => (t.control, t.fbWidth, t.fbHeight, t.fbPitch, t.fbEnable, t.dirty)) =
      some (0xFFFFFFFC, 800, 600, 3200, 0, true) := by decide

/-- R114 example. -/
theorem test_control_read :
    returned (.rdControl .s4) { fresh with control := 2 } =
      some [.data 2] := by decide

/-- T24. -/
theorem test_fb_addr_write :
    after (.wrFbAddr .s4 0x1000) fresh (fun t => (t.fbAddr, t.dirty)) =
      some (0x1000, true) := by decide

/-- R117 example. -/
theorem test_fb_addr_read :
    returned (.rdFbAddr .s4) { fresh with fbAddr := 1920000 } =
      some [.data 1920000] := by decide

/-- T11, T15. -/
theorem test_fb_width_write_recomputes_pitch :
    (after (.wrFbWidth .s4 0x400) fresh (fun t => (t.fbWidth, t.fbPitch, t.dirty)), after (.wrFbWidth .s4 0x40000000) fresh (·.fbPitch)) =
      (some (1024, 4096, true), some 0) := by decide

/-- T16, T18. -/
theorem test_fb_width_narrow_and_wide_writes :
    (after (.wrFbWidth .s1 0x1234) fresh (fun t => (t.fbWidth, t.fbPitch)), after (.wrFbWidth .s8 0x0000025800000320) fresh (fun t => (t.fbWidth, t.fbHeight))) =
      (some (52, 208), some (800, 600)) := by decide

/-- T17. -/
theorem test_fb_width_reads :
    (returned (.rdFbWidth .s1) { fresh with fbWidth := 1024 }, returned (.rdFbWidth .s2) { fresh with fbWidth := 1024 }, returned (.rdFbWidth .s8) { fresh with fbWidth := 1024 }) =
      (some [.data 0], some [.data 0x400], some [.data 0x400]) := by decide

/-- T19. -/
theorem test_fb_height_write_keeps_pitch :
    after (.wrFbHeight .s4 768) { fresh with fbPitch := 5000 } (fun t => (t.fbHeight, t.fbPitch, t.dirty)) =
      some (768, 5000, true) := by decide

/-- R121 example. -/
theorem test_fb_height_read :
    returned (.rdFbHeight .s4) fresh =
      some [.data 600] := by decide

/-- T12, T13, T14. -/
theorem test_fb_bpp_write_recomputes_pitch :
    (after (.wrFbBpp .s4 16) { fresh with fbWidth := 1024 } (·.fbPitch), after (.wrFbBpp .s4 7) fresh (·.fbPitch), after (.wrFbBpp .s4 0xFFFFFFFF) fresh (·.fbPitch)) =
      (some 2048, some 0, some 0xFFFFFCE0) := by decide

/-- R123 example. -/
theorem test_fb_bpp_read :
    returned (.rdFbBpp .s4) fresh =
      some [.data 32] := by decide

/-- T21. -/
theorem test_fb_enable_transition :
    after (.wrFbEnable .s4 1) { fresh with fbWidth := 640, fbHeight := 480 } (fun t => (t.fbEnable, t.surface.w, t.surface.h, t.dirty)) =
      some (1, 640, 480, true) := by decide

/-- T22, T23. -/
theorem test_fb_enable_no_transition :
    (after (.wrFbEnable .s4 2) { fresh with fbEnable := 1, fbWidth := 4 } (fun t => (t.fbEnable, t.dirty, t.surface.w)), after (.wrFbEnable .s4 0) { fresh with fbEnable := 1, fbWidth := 4 } (fun t => (t.fbEnable, t.dirty, t.surface.w))) =
      (some (2, false, 800), some (0, false, 800)) := by decide

/-- R125: any stored word. -/
theorem test_fb_enable_read :
    returned (.rdFbEnable .s4) { fresh with fbEnable := 5 } =
      some [.data 5] := by decide

/-- T19. -/
theorem test_fb_pitch_write :
    after (.wrFbPitch .s4 5000) fresh (fun t => (t.fbPitch, t.fbWidth, t.dirty)) =
      some (5000, 800, true) := by decide

/-- P4 line 2. -/
theorem test_fb_pitch_read :
    returned (.rdFbPitch .s2) { fresh with fbPitch := 208 } =
      some [.data 0x00D0] := by decide

/-- F1. -/
theorem test_setup_single_fills_vram :
    after (.setupSingle 2048 2048 32) { fresh with fbAddr := 9 } (fun t => (t.out, t.fbPitch, t.fbAddr, t.fbWidth, t.fbHeight, t.dirty)) =
      some ([.result .ok .none], 8192, 0, 2048, 2048, true) := by decide

/-- F2. -/
theorem test_setup_single_out_of_memory :
    after (.setupSingle 2049 2048 32) fresh (fun t => (t.out, t.fbWidth, t.dirty)) =
      some ([.result .outOfMemory .none], 800, false) := by decide

/-- F7. -/
theorem test_setup_multi :
    after (.setupMulti 2 1920 1080 32) { two with current := 1, next := 1, fbAddr := 7 } (fun t => (t.fbCount, t.fbSize, t.current, t.next, t.fbPitch, t.fbAddr)) =
      some (2, 8294400, 0, 0, 7680, 0) := by decide

/-- F6, F8, F9. -/
theorem test_setup_multi_errors :
    [returned (.setupMulti 4 1920 1080 32) fresh, returned (.setupMulti 0 800 600 32) fresh, returned (.setupMulti 5 4096 4096 32) fresh] =
      [some [.result .outOfMemory .none], some [.result .invalidArgument .none], some [.result .invalidArgument .none]] := by decide

/-- F10. -/
theorem test_request_flip :
    after (.requestFlip 1 0) two (fun t => (t.current, t.next, t.vblankCount, t.fbAddr, t.dirty, t.pending)) =
      some (1, 1, 1, 0x1D4C00, true, false) := by decide

/-- F11, F27. -/
theorem test_request_flip_bad_index_and_wrap :
    (after (.requestFlip 2 1) two (fun t => (t.out, t.current, t.vblankCount)), after (.requestFlip 0 0) { two with vblankCount := 0xFFFFFFFF } (·.vblankCount)) =
      (some ([.result .invalidArgument .none], 0, 0), some 0) := by decide

/-- F13. -/
theorem test_wait_for_flip :
    returned (.waitForFlip 0) fresh =
      some [.result .ok .none] := by decide

/-- E4. -/
theorem test_describe :
    returned .describe { two with current := 1 } =
      some [.result .ok (.info ⟨2, 1, 1920000, #v[0, 1920000, 0, 0]⟩)] := by decide

/-- F16. -/
theorem test_get_vram_size :
    returned .getVramSize fresh =
      some [.result .ok (.size 16777216)] := by decide

/-- F17, R157: 5 becomes 1 and nothing else. -/
theorem test_enable_display :
    (after (.enableDisplay 1) fresh (fun t => (t.fbEnable, t.dirty)), after (.enableDisplay 9) { fresh with fbEnable := 5 } (fun t => (t.fbEnable, t.dirty))) =
      (some (1, true), some (1, false)) := by decide

/-- F18. -/
theorem test_fb_count_write :
    after (.wrFbCount .s4 2) fresh (fun t => (t.fbCount, t.fbSize, t.dirty, t.diag)) =
      some (2, 1920000, true, []) := by decide

/-- F19, F20. -/
theorem test_fb_count_write_rejected :
    (after (.wrFbCount .s4 9) two (fun t => (t.fbCount, t.diag, t.dirty)), after (.wrFbCount .s4 3) { fresh with fbWidth := 1920, fbHeight := 1080 } (fun t => (t.fbCount, t.diag))) =
      (some (2, [⟨.rejectedWrite, 0x03C⟩], false), some (1, [⟨.rejectedWrite, 0x03C⟩])) := by decide

/-- R170 example. -/
theorem test_fb_count_read :
    returned (.rdFbCount .s4) fresh =
      some [.data 1] := by decide

/-- F29, R172. -/
theorem test_fb_current :
    (after (.wrFbCurrent .s4 0) { two with current := 1 } (fun t => (t.current, t.diag)), returned (.rdFbCurrent .s4) { two with current := 1 }) =
      (some (1, [⟨.readOnlyWrite, 0x040⟩]), some [.data 1]) := by decide

/-- F21, F22. -/
theorem test_fb_next_write :
    (after (.wrFbNext .s4 2) two (fun t => (t.next, t.diag)), after (.wrFbNext .s4 1) two (fun t => (t.next, t.current, t.dirty))) =
      (some (0, [⟨.rejectedWrite, 0x044⟩]), some (1, 0, false)) := by decide

/-- R174 example. -/
theorem test_fb_next_read :
    returned (.rdFbNext .s4) { two with next := 1 } =
      some [.data 1] := by decide

/-- F23, F24. -/
theorem test_page_flip_write :
    (after (.wrPageFlip .s4 0xABCD) { two with next := 1 } (fun t => (t.current, t.vblankCount, t.fbAddr)), after (.wrPageFlip .s1 0x100) { two with next := 1 } (fun t => (t.current, t.vblankCount, t.diag))) =
      (some (1, 1, 1920000), some (0, 0, [])) := by decide

/-- F28. -/
theorem test_page_flip_read :
    after (.rdPageFlip .s4) two (fun t => (t.out, t.diag, t.vblankCount)) =
      some ([.data 0], [⟨.writeOnlyRead, 0x048⟩], 0) := by decide

/-- F25, F26. -/
theorem test_flip_pending :
    (returned (.rdFlipPending .s4) fresh, after (.wrFlipPending .s4 1) fresh (fun t => (t.pending, t.diag))) =
      (some [.data 0], some (false, [⟨.readOnlyWrite, 0x04C⟩])) := by decide

/-- F29, R180. -/
theorem test_vblank_count :
    (after (.wrVblankCount .s4 0) { fresh with vblankCount := 1 } (fun t => (t.vblankCount, t.diag)), returned (.rdVblankCount .s4) { fresh with vblankCount := 1 }) =
      (some (1, [⟨.readOnlyWrite, 0x050⟩]), some [.data 1]) := by decide

/-- K1. -/
theorem test_set_position :
    after (.setPosition 10 20) fresh (fun t => (t.cursorX, t.cursorY, t.dirty, t.out)) =
      some (10, 20, true, [.result .ok .none]) := by decide

/-- K2. -/
theorem test_set_hotspot :
    after (.setHotspot 5 6) fresh (fun t => (t.hotspotX, t.hotspotY, t.dirty)) =
      some (5, 6, false) := by decide

/-- K3. -/
theorem test_set_enabled :
    after (.setEnabled 7) fresh (fun t => (t.cursorEnable, t.dirty)) =
      some (1, true) := by decide

/-- K5, K6. -/
theorem test_cursor_x :
    (after (.wrCursorX .s4 0xFFFFFFFB) fresh (fun t => (sint32 t.cursorX, t.dirty)), after (.wrCursorX .s2 0xFFFB) fresh (·.cursorX)) =
      (some (-5, true), some 65531) := by decide

/-- R210: a position of -5. -/
theorem test_cursor_x_read :
    returned (.rdCursorX .s4) { fresh with cursorX := 0xFFFFFFFB } =
      some [.data 0xFFFFFFFB] := by decide

/-- R213 example. -/
theorem test_cursor_y :
    (after (.wrCursorY .s4 100) fresh (fun t => (t.cursorY, t.cursorX, t.dirty)), returned (.rdCursorY .s4) { fresh with cursorY := 100 }) =
      (some (100, 0, true), some [.data 100]) := by decide

/-- K4, R215. -/
theorem test_cursor_enable :
    (after (.wrCursorEnable .s4 2) fresh (fun t => (t.cursorEnable, t.dirty)), after (.wrCursorEnable .s1 0x100) { fresh with cursorEnable := 1 } (·.cursorEnable), returned (.rdCursorEnable .s4) fresh) =
      (some (2, true), some 0, some [.data 0]) := by decide

/-- K7. -/
theorem test_hotspot_x :
    (after (.wrCursorHotspotX .s4 3) fresh (fun t => (t.hotspotX, t.hotspotY, t.dirty)), returned (.rdCursorHotspotX .s4) { fresh with hotspotX := 3 }) =
      (some (3, 0, false), some [.data 3]) := by decide

/-- R219 example. -/
theorem test_hotspot_y :
    (after (.wrCursorHotspotY .s4 7) fresh (fun t => (t.hotspotX, t.hotspotY, t.dirty)), returned (.rdCursorHotspotY .s4) { fresh with hotspotY := 7 }) =
      (some (0, 7, false), some [.data 7]) := by decide

/-- K16. -/
theorem test_cursor_upload_write :
    after (.wrCursorUpload .s1 0x1FF) fresh (fun t => (t.bitmap[0], t.uploadCursor, t.cursorLoaded, t.dirty)) =
      some (0x000000FF, 1, false, false) := by decide

/-- K10. -/
theorem test_cursor_upload_read :
    after (.rdCursorUpload .s4) fresh (fun t => (t.out, t.uploadCursor, t.diag)) =
      some ([.data 0], 0, [⟨.writeOnlyRead, 0x038⟩]) := by decide

set_option maxRecDepth 16384 in
/-- K9. -/
theorem test_upload_pixel_completes_the_image :
    after (.uploadPixel 9) { fresh with uploadCursor := 4095 } (fun t => (t.bitmap[4095], t.uploadCursor, t.cursorLoaded, t.dirty)) =
      some (9, 0, true, true) := by decide

set_option maxRecDepth 16384 in
/-- R205, as K14 with two pixels. -/
theorem test_upload_bulk_wraps :
    after (.uploadBulk 2 [7, 8, 9]) { fresh with uploadCursor := 4095 } (fun t => (t.bitmap[4095], t.bitmap[0], t.bitmap[1], t.uploadCursor, t.cursorLoaded)) =
      some (7, 8, 0, 1, true) := by decide

/-- K12, K13. -/
theorem test_upload_bulk_errors :
    (returned (.uploadBulk 3 [1, 2]) fresh, returned (.uploadBulk 0 []) fresh, returned (.uploadBulk 4097 []) fresh) =
      (some [.result .invalidArgument .none], some [.result .ok .none], some [.result .invalidArgument .none]) := by decide

/-- V1. -/
theorem test_vram_write_is_little_endian :
    after (.vwr .s4 0 0x11223344) fresh (fun t => (t.vram, t.dirty)) =
      some ([(0, 0x44), (1, 0x33), (2, 0x22), (3, 0x11)], true) := by decide

/-- V2, V6. -/
theorem test_vram_reads :
    (returned (.vrd .s1 3) v1, returned (.vrd .s2 1) v1, returned (.vrd .s2 16777215) v1) =
      (some [.data 0x11], some [.data 0x2233], some [.data 0]) := by decide

/-- V4, V5. -/
theorem test_vram_write_past_the_end :
    (after (.vwr .s4 16777214 0xDEADBEEF) fresh (fun t => (t.vram, t.dirty)), after (.vwr .s2 16777214 0xBEEF) fresh (·.vram)) =
      (some ([], false), some [(16777214, 0xEF), (16777215, 0xBE)]) := by decide

/-- G1 to G6. -/
theorem test_render_gate_order :
    [fresh.gate, State.gate { mode with fbEnable := 0 }, State.gate { mode with fbBpp := 16 }, State.gate { mode with fbWidth := 0 }, State.gate { mode with fbPitch := 15 }, State.gate { mode with fbAddr := 16777200 }, State.gate { mode with fbAddr := 16777184 }] =
      [some .clean, some .disabled, some .unsupported, some .malformed, some .malformed, some .malformed, none] := by decide

/-- G3. -/
theorem test_render_noop_keeps_dirty :
    after .render { mode with fbBpp := 16 } (fun t => (t.out, t.dirty)) =
      some ([.status (.noOp .unsupported)], true) := by decide

/-- B1 to B5, B8, B9. -/
theorem test_blend :
    [blend 0x80FF0000 0xFF0000FF 0x80, blend 0x80646464 0xFFC8C8C8 0x80, blend 0x01FFFFFF 0xFF000000 1, blend 0xFE000000 0xFFFFFFFF 0xFE, blend 0x80000000 0x00FFFFFF 0x80, blend 0x7FFFFFFF 0xFF000000 0x7F, blend 0x80FFFFFF 0xFF000000 0x80] =
      [0xFF80007F, 0xFF959595, 0xFF010101, 0xFF010101, 0xFF7F7F7F, 0xFF7F7F7F, 0xFF808080] := by decide

/-- B6, B7. -/
theorem test_compose_transparent_and_opaque :
    (composePixel 0x00123456 0x11223344, composePixel 0xFF123456 0x11223344) =
      (0x11223344, 0xFF123456) := by decide

set_option maxRecDepth 16384 in
/-- G8. -/
theorem test_render_copies_the_background :
    after .render { mode with vram := (List.range 32).map fun i => (i, BitVec.ofNat 8 [0xEF, 0xCD, 0xAB, 0x00][i % 4]!) } (fun t => (t.out, t.dirty, t.surface.pixel 0 0, t.surface.pixel 3 1)) =
      some ([.status .rendered], false, 0x00ABCDEF, 0x00ABCDEF) := by decide

/-- P2: blended, opaque, transparent, and off the screen. -/
theorem test_render_draws_the_cursor :
    after .render p2 (fun t => (t.surface.w, t.surface.h, t.surface.px)) =
      some (4, 2, .shown #[0xFF0000FF, 0xFF80007F, 0xFF00FF00, 0xFF0000FF, 0xFF0000FF, 0xFF0000FF, 0xFF0000FF, 0xFF0000FF]) := by decide +kernel

/-! ## One step -/

/-- A step runs the operation offered and takes its words away. -/
theorem test_step_runs_the_offered_operation :
    (match step { fresh with input := [0x30000010, 1024, 0, 0xC0000000] } with
      | .next t => some (t.fbWidth, t.fbPitch, t.input)
      | _ => none) = some (1024, 4096, [0xC0000000]) := by decide

/-- With nothing offered the block stays as it is. -/
theorem test_step_idle : (match step fresh with | .next t => some t.out | _ => none) = some [] := by decide

/-- An invalid header is refused. -/
theorem test_step_refuses_invalid_header :
    (match step { fresh with input := [0xC0000001] } with
      | .refused r => some r
      | _ => none) = some (.invalidHeader 0xC0000001) := by decide

/-- A word placed for the next step is what the step runs. -/
theorem test_with_fetch_word :
    (match step (State.reset.withFetchWord 32 0x80000006) with
      | .next t => some (t.out, t.input)
      | _ => none) = some ([.result .ok (.size 16777216)], []) := by decide

theorem test_decode_table_word :
    decodeTableWord 32 0x70000000 = some (.vwr .s4 0 0) ∧ decodeTableWord 32 0x8000000C = some (.uploadBulk 0 []) ∧
    decodeTableWord 32 0x8000000D = none := by decide

/-- Guest addresses: the first and last of each window, and one in neither (44_guest_interface.md R270). -/
theorem test_route :
    [route fresh.params 0x10000, route fresh.params 0x10FFF, route fresh.params 0x11000,
      route fresh.params 0x100000, route fresh.params 0x10FFFFF, route fresh.params 0x1100000] =
    [some (.register 0x000), some (.register 0xFFF), none, some (.vram 0), some (.vram 0xFFFFFF), none] := by decide

/-- `FLIP n` and its words (30_encoding.md R93, P1). -/
theorem test_pseudo_flip :
    encodeProgram (pseudoFlip 1) = [0x30000044, 1, 0, 0x30000048, 1, 0] := by decide

/-! ## Witnesses: for each statement with hypotheses, a state and operands that meet them all -/

open Sys2Proof.Claims Sys2Proof.Safety

/-- The rows of reads and writes: every size has its SZ field. -/
theorem witness_row_sizes :
    sizeBytes .s1 = 2 ^ 0 ∧ sizeBytes .s2 = 2 ^ 1 ∧ sizeBytes .s4 = 2 ^ 2 ∧ sizeBytes .s8 = 2 ^ 3 := by decide

/-- The rows of writes: the value of a narrow and of a wide DATA, and operand words that decode (R102 example, T18). -/
theorem witness_writeRow :
    (0x34 : Word).toNat = (0x1234 : Data).toNat % 2 ^ min (8 * sizeBytes .s1) 32 ∧
    (0x320 : Word).toNat = (0x25800000320 : Data).toNat % 2 ^ min (8 * sizeBytes .s8) 32 ∧
    decode [0x38000010, 0x320, 0x258] = .ok (.wrFbWidth .s8 0x25800000320) [] := by decide

theorem witness_UnmappedAccesses :
    ((0xFF8 : Off).toNat ∉ mappedOffsets ∧ (0xFF8 : Off).toNat + sizeBytes .s8 ≤ 4096) ∧
    ((0xFF9 : Off).toNat ∉ mappedOffsets ∧ (0xFF9 : Off).toNat + sizeBytes .s8 > 4096) ∧
    decode [0x38000FF8, 1, 2] = .ok (.wrUnmapped .s8 0xFF8 0x200000001) [] := by decide

theorem witness_DecodeOfEncode_and_EncodeOfDecode :
    (Instr.uploadBulk 1 [7]).wf = true ∧ decode [0x8000000C, 1, 1, 7, 9] = .ok (.uploadBulk 1 [7]) [9] := by decide

/-- A state whose next word is an invalid header. -/
theorem witness_InvalidHeadersAreRefused :
    ({ fresh with input := [0x8000000D] } : State).render = none ∧
    decode [0x8000000D] = .bad (.invalidHeader 0x8000000D) := by decide

theorem witness_StepRunsTheDecodedOperation :
    fresh.render = none ∧ fresh.input = [] ∧ ({ fresh with input := [0x80000005] } : State).render = none ∧
    decode [0x80000005] = .ok .describe [] := by decide

/-- A render of one pixel in progress, a VRAM write of four bytes offered and chosen next. -/
def dot : State :=
  { fresh with
    fbWidth := 1, fbHeight := 1, fbPitch := 4, fbEnable := 1, dirty := true
    vram := [(0, 0), (1, 0), (2, 0), (3, 0)] }

def inside : State :=
  { dot with render := some dot.beginRender, sched := [.vram], input := [0x70000000, 0, 0x11223344, 0] }

theorem witness_InsideARenderOnlyVramTransactionsRun :
    inside.render = some dot.beginRender ∧ ∃ t, step inside = .next t ∧ t.input ≠ inside.input ∧ t.vram ≠ inside.vram :=
  ⟨rfl, _, rfl, by decide, by decide⟩

theorem witness_EachByteIsReadAtItsOwnInstant :
    dot.beginRender.todo ≠ [] ∧ dot.beginRender.scratch.size = 4 * (dot.beginRender.w.toNat * dot.beginRender.h.toNat) ∧
    (∀ j ∈ dot.beginRender.todo, j < 4 * (dot.beginRender.w.toNat * dot.beginRender.h.toNat)) ∧
    ({ inside with sched := [.compositor 3] } : State).sched = .compositor 3 :: [] := by decide

theorem witness_uploads :
    (List.replicate 4096 (7 : Word)).length = 4096 ∧
    (([7] : List Word).length = (1 : Word).toNat ∧
      ({ fresh with uploadCursor := 4094 } : State).uploadCursor.val + (1 : Word).toNat < 4096) := by
  refine ⟨List.length_replicate, rfl, ?_⟩
  decide

/-- The last access inside VRAM and the first past it. -/
theorem witness_VramRead_and_VramWrite :
    (16777214 : Word).toNat + sizeBytes .s2 ≤ fresh.params.vramSize ∧
    (16777215 : Word).toNat + sizeBytes .s2 > fresh.params.vramSize := by decide

theorem witness_NarrowerReadsSeeTheBytesWritten :
    (16777208 : Word).toNat + sizeBytes .s8 ≤ fresh.params.vramSize ∧ 6 + sizeBytes .s2 ≤ sizeBytes .s8 ∧
    (16777214 : Word).toNat = (16777208 : Word).toNat + 6 ∧
    ∃ t, exec (.vwr .s8 16777208 0x8877665544332211) fresh = .next t :=
  ⟨by decide, by decide, by decide, _, rfl⟩

theorem gateOpen_mode : GateOpen mode :=
  ⟨rfl, by decide, rfl, by decide, by decide, by decide, by decide⟩

/-- One state for each clause; the last clause's region ends exactly at VRAM_SIZE. -/
theorem witness_RenderThatCannotRun :
    fresh.dirty = false ∧ (mode.dirty = true ∧ ({ mode with fbEnable := 0 } : State).fbEnable = 0) ∧
    (mode.fbEnable ≠ 0 ∧ ({ mode with fbBpp := 31 } : State).fbBpp ≠ 32) ∧ ({ mode with fbWidth := 0 } : State).fbWidth = 0 ∧
    ({ mode with fbHeight := 0 } : State).fbHeight = 0 ∧ (15 : Word).toNat < 4 * mode.fbWidth.toNat ∧
    (16777185 : Word).toNat + mode.fbPitch.toNat * mode.fbHeight.toNat > mode.params.vramSize ∧
    GateOpen { mode with fbAddr := 16777184 } :=
  ⟨rfl, by decide, by decide, rfl, rfl, by decide, by decide,
    ⟨rfl, by decide, rfl, by decide, by decide, by decide, by decide⟩⟩

theorem witness_RenderPresentsTheComposite :
    GateOpen mode ∧ mode.sched = [] ∧ 3 < mode.fbWidth.toNat ∧ 1 < mode.fbHeight.toNat :=
  ⟨gateOpen_mode, rfl, by decide, by decide⟩

theorem gateOpen_dot : GateOpen dot :=
  ⟨rfl, by decide, rfl, by decide, by decide, by decide, by decide⟩

theorem gateOpen_offered (sched : List Choice) (input : List Word) :
    GateOpen { dot with sched := sched, input := input } :=
  ⟨gateOpen_dot.1, gateOpen_dot.2, gateOpen_dot.3, gateOpen_dot.4, gateOpen_dot.5, gateOpen_dot.6, gateOpen_dot.7⟩

theorem witness_RenderTakesItsSnapshot :
    GateOpen { dot with sched := [.vram], input := [] } ∧ ({ dot with sched := [.vram] } : State).sched ≠ [] :=
  ⟨gateOpen_offered _ _, by decide⟩

/-- One pixel: four byte reads and a last step, picks in no order, and one choice left over; or the choices run out
after the fourth byte or after the first. -/
theorem witness_RenderByBytesIsTheRenderInOneStep :
    GateOpen { dot with sched := List.replicate 5 (.compositor 2) ++ [.vram], input := [0xC0000000] } ∧
    (List.replicate 5 (Choice.compositor 2)).all isCompositor = true ∧
    (List.replicate 5 (Choice.compositor 2)).length = 4 * (dot.fbWidth.toNat * dot.fbHeight.toNat) + 1 ∧
    (∃ u, exec .render dot = .next u) ∧
    ∀ n ∈ [1, 4], GateOpen { dot with sched := List.replicate n (.compositor 2) ++ [], input := [0xC0000000] } ∧
      List.replicate n (Choice.compositor 2) ≠ [] ∧
      (List.replicate n (Choice.compositor 2)).all isCompositor = true ∧
      (List.replicate n (Choice.compositor 2)).length ≤ 4 * (dot.fbWidth.toNat * dot.fbHeight.toNat) :=
  ⟨gateOpen_offered _ _, by decide, by decide, ⟨_, rfl⟩, fun n hn =>
    ⟨gateOpen_offered _ _, by revert n; decide⟩⟩

/-- The render of `dot` when bytes 0 to 2 have been read, and when all have. -/
def lastJob (todo : List Nat) : RenderJob := { dot.beginRender with todo := todo, scratch := #[1, 2, 3, 0] }

/-- A last step of each kind: no choice left with a byte still to be read, and no byte left with a choice of either
kind next. -/
theorem witness_RenderByBytes_last_step :
    (lastJob [3]).scratch.size = 4 * ((lastJob [3]).w.toNat * (lastJob [3]).h.toNat) ∧
    (∀ j ∈ (lastJob [3]).todo, j < 4 * ((lastJob [3]).w.toNat * (lastJob [3]).h.toNat)) ∧
    ({ dot with render := some (lastJob [3]) } : State).sched = [] ∧ (lastJob []).todo = [] ∧
    isCompositor (.compositor 9) = true ∧
    ({ dot with render := some (lastJob []), sched := [.vram] } : State).offeredVram = none ∧
    0 < (lastJob [3]).w.toNat ∧ 0 < (lastJob [3]).h.toNat := by decide

theorem witness_CompositingProperties_and_BlendFormula :
    channel 0xFF123456 24 = 255 ∧ channel 0x00123456 24 = 0 ∧ channel 0x80123456 24 = 128 ∧
    (0 < 1 ∧ 1 < 255) ∧ 0 < 254 ∧ 254 < 255 := by decide

/-- Two buffers, and a legal state with a render in progress. -/
theorem inv_two : Inv two :=
  ⟨by unfold ParamsLegal; decide, ⟨by decide, by decide, by decide, by decide, by decide, rfl⟩,
    by unfold ControlLegal; decide, ⟨rfl, by decide⟩, trivial, trivial⟩

theorem inv_inside : Inv inside := by
  refine ⟨by unfold ParamsLegal; decide, ⟨by decide, by decide, by decide, by decide, by decide, rfl⟩,
    by unfold ControlLegal; decide, ⟨rfl, by decide⟩, trivial, ?_⟩
  refine ⟨by decide, rfl, rfl, rfl, rfl, rfl, rfl, rfl, by decide, by decide, by decide, by decide, ?_,
    List.nodup_range, ?_⟩
  · simp [dot, fresh, State.beginRender]
  · intro j hj
    simpa [dot, fresh, State.beginRender] using hj

theorem witness_StepKeepsInvariant_and_BusyAndTimeout : Inv inside ∧ ∃ t, step inside = .next t ∧ t.out = [.done] :=
  ⟨inv_inside, _, rfl, by decide⟩

theorem witness_RequestFlip_and_FlipShowsASliceOfVram :
    Inv two ∧ (1 : Word).toNat < two.fbCount.toNat ∧
    ∃ t, exec (.requestFlip 1 0) two = .next t ∧ t.vblankCount ≠ two.vblankCount :=
  ⟨inv_two, by decide, _, rfl, by decide⟩

theorem witness_OnlyVramWritesChangeVram : ∃ t, step inside = .next t ∧ t.vram ≠ inside.vram :=
  ⟨_, rfl, by decide⟩

theorem witness_OnlyARenderClearsDirty :
    dot.dirty = true ∧ ∃ t, step { dot with input := [0xC0000000] } = .next t ∧ t.dirty = false :=
  ⟨rfl, _, rfl, by decide⟩

theorem witness_OnlyFlipsCountVblanks :
    ∃ t, exec (.wrPageFlip .s4 5) two = .next t ∧ t.vblankCount ≠ two.vblankCount :=
  ⟨_, rfl, by decide⟩

theorem witness_runs : ∃ t, Sys2Proof.core.run 1 { two with input := [0x80000003, 1, 0] } = .next t ∧
    flips 1 { two with input := [0x80000003, 1, 0] } = 1 :=
  ⟨_, rfl, by decide⟩

theorem witness_ErrorsChangeNothing :
    ∃ t, exec (.requestFlip 2 1) two = .next t ∧ t.out = two.out ++ [.result .invalidArgument .none] ∧
      ResultCode.invalidArgument ≠ .ok :=
  ⟨_, rfl, by decide, by decide⟩

theorem witness_ReadsChangeOnlyTheLog : isRead (.rdStatus .s4) = true ∧ isRead (.vrd .s1 0) = true := by decide

theorem witness_NothingReadsTheDiagnosticLog : ∃ t, exec (.wrDeviceId .s4 5) fresh = .next t ∧ t.diag ≠ fresh.diag :=
  ⟨_, rfl, by decide⟩

theorem witness_GuestCannotReadHiddenState :
    isGuest (.rdFbCount .s4) = true ∧ (∃ t, exec (.rdFbCount .s4) fresh = .next t) ∧
    ∃ t, exec (.rdFbCount .s4)
      { fresh with
        dirty := true, uploadCursor := 9, fbSize := 1, bitmap := fresh.bitmap, surface := ⟨1, 1, .shown #[0]⟩
        diag := [⟨.outOfRange, 0xFFF⟩] } = .next t :=
  ⟨by decide, ⟨_, rfl⟩, _, rfl⟩

theorem witness_CursorEnableMachine :
    (∃ t, exec (.wrCursorEnable .s4 2) fresh = .next t ∧ t.cursorEnable ≠ fresh.cursorEnable) ∧
    ∃ t, exec (.setEnabled 0) { fresh with cursorEnable := 1 } = .next t ∧ t.cursorEnable ≠ 1 :=
  ⟨⟨_, rfl, by decide⟩, _, rfl, by decide⟩

theorem witness_OnlySetupMultiSetsTheSliceSize :
    (∃ t, exec (.setupMulti 1 4 4 32) fresh = .next t ∧ t.fbSize ≠ fresh.fbSize) ∧
    ∃ t, exec (.wrFbCount .s4 2) fresh = .next t ∧ t.fbCount ≠ fresh.fbCount :=
  ⟨⟨_, rfl, by decide⟩, _, rfl, by decide⟩

/-- The first and last address of each window, and the addresses next to them. -/
theorem witness_GuestAddressesAreRouted :
    let p := fresh.params
    p.vramSize ≤ 2 ^ 32 ∧
    (Config.minVramSize ≤ p.vramSize ∧ p.vramSize ≤ Config.maxVramSize ∧ 0 < p.pageSize ∧ p.vramBase % p.pageSize = 0) ∧
    (∀ a ∈ [0x10000, 0x10FFF], p.regBase ≤ a ∧ a < p.regBase + 4096) ∧
    (∀ a ∈ [0x100000, 0x10FFFFF], (a < p.regBase ∨ p.regBase + 4096 ≤ a) ∧ p.vramBase ≤ a ∧
      a < p.vramBase + p.vramSize) ∧
    ∀ a ∈ [0xFFFF, 0x11000, 0xFFFFF, 0x1100000], (a < p.regBase ∨ p.regBase + 4096 ≤ a) ∧
      (a < p.vramBase ∨ p.vramBase + p.vramSize ≤ a) := by decide

/-- The numbers of 60_exceptions.md R303. -/
theorem test_result_code_numbers :
    [ResultCode.ok, .invalidArgument, .outOfMemory, .busy, .timeout, .unsupported].map resultCodeNumber =
      [0, 1, 2, 3, 4, 5] := by decide

/-- R158: a flip asked for while one is pending, and a wait that cannot end, in a state no run reaches. -/
theorem test_busy_and_timeout :
    (returned (.requestFlip 0 0) { fresh with pending := true },
      returned (.waitForFlip 100) { fresh with pending := true }) =
    (some [.result .busy .none], some [.result .timeout .none]) := by decide

end Sys2Proof.Tests
end

section
/-! SUPPORT. What an operation answers and what a step can do, each said once, and the statements of 00_scope.md
that follow: an error changes nothing (R12), the parameters are constant (R7), and a step runs the operation offered
next (R4, R11). -/

namespace Sys2Proof.Proofs

open Sys2Proof.Machine

/-! ## Effects of operations -/

/-- `u` is `s` after the effect of an operation, before its answer: the parameters, the words still offered, the
choices for renders and the answers given so far are those of `s`. -/
structure Effect (s u : State) : Prop where
  params : u.params = s.params
  input : u.input = s.input
  sched : u.sched = s.sched
  out : u.out = s.out

theorem Effect.refl (s : State) : Effect s s := ⟨rfl, rfl, rfl, rfl⟩

theorem effect_logDiag {s u : State} (h : Effect s u) (kind : DiagKind) (off : Off) :
    Effect s (u.logDiag kind off) :=
  ⟨h.params, h.input, h.sched, h.out⟩

theorem effect_ite {s u v : State} {c : Prop} [Decidable c] (hu : Effect s u) (hv : Effect s v) :
    Effect s (if c then u else v) := by
  split
  · exact hu
  · exact hv

theorem effect_writeControl (s : State) (v : Word) : Effect s (s.writeControl v) :=
  effect_ite ⟨rfl, rfl, rfl, rfl⟩ ⟨rfl, rfl, rfl, rfl⟩

theorem effect_writeFbEnable (s : State) (v : Word) : Effect s (s.writeFbEnable v) :=
  effect_ite ⟨rfl, rfl, rfl, rfl⟩ ⟨rfl, rfl, rfl, rfl⟩

theorem effect_uploadPixels (s : State) (ps : List Word) : Effect s (s.uploadPixels ps) := by
  rw [uploadPixels_frame]
  exact ⟨rfl, rfl, rfl, rfl⟩

theorem effect_uploadPixel (s : State) (p : Word) : Effect s (s.uploadPixel p) :=
  effect_uploadPixels s [p]

/-! ## Commands that can fail (00_scope.md R12) -/

/-- A command's result and state: an effect, and on an error none at all. -/
structure FailsClean (s : State) (r : ResultCode × State) : Prop where
  effect : Effect s r.2
  error : r.1 ≠ .ok → r.2 = s

theorem failsClean_ok {s u : State} (h : Effect s u) : FailsClean s (.ok, u) := ⟨h, fun hne => absurd rfl hne⟩

theorem failsClean_unchanged (s : State) (code : ResultCode) : FailsClean s (code, s) := ⟨.refl s, fun _ => rfl⟩

theorem failsClean_setupSingle (s : State) (w h bpp : Word) : FailsClean s (s.setupSingle w h bpp) := by
  rcases setupSingle_cases s w h bpp with ⟨-, e⟩ | ⟨-, e⟩ <;> rw [e]
  · exact failsClean_unchanged s _
  · exact failsClean_ok ⟨rfl, rfl, rfl, rfl⟩

theorem failsClean_setupMulti (s : State) (count w h bpp : Word) : FailsClean s (s.setupMulti count w h bpp) := by
  rcases setupMulti_cases s count w h bpp with ⟨-, e⟩ | ⟨-, -, -, e⟩ | ⟨-, -, -, e⟩ <;> rw [e]
  · exact failsClean_unchanged s _
  · exact failsClean_unchanged s _
  · exact failsClean_ok ⟨rfl, rfl, rfl, rfl⟩

theorem failsClean_requestFlip (s : State) (t : Word) : FailsClean s (s.requestFlip t) := by
  rcases requestFlip_cases s t with ⟨-, e⟩ | ⟨-, -, e⟩ | ⟨-, -, e⟩ <;> rw [e]
  · exact failsClean_unchanged s _
  · exact failsClean_unchanged s _
  · exact failsClean_ok ⟨rfl, rfl, rfl, rfl⟩

theorem failsClean_uploadBulk (s : State) (count : Word) (pixels : List Word) :
    FailsClean s (s.uploadBulk count pixels) := by
  rcases uploadBulk_cases s count pixels with ⟨-, e⟩ | ⟨-, -, e⟩ <;> rw [e]
  · exact failsClean_unchanged s _
  · exact failsClean_ok (effect_uploadPixels s _)

theorem effect_absorbFailure {s : State} {r : ResultCode × State} (h : FailsClean s r) (off : Off) :
    Effect s (absorbFailure off r) := by
  by_cases hok : r.1 = .ok
  · obtain ⟨code, u⟩ := r
    subst hok
    exact h.effect
  · rw [absorbFailure_error hok]
    exact effect_logDiag h.effect _ _

/-! ## What an operation answers -/

/-- One response after an effect; a result other than Ok has no record and follows no change. -/
def Answers (s : State) (o : StepOutcome) : Prop :=
  ∃ u r, o = .next (u.respond r) ∧ Effect s u ∧
    ∀ code record, r = .result code record → code ≠ .ok → record = .none ∧ u = s

theorem answers_write {s u : State} (h : Effect s u) : Answers s (completeWrite u) :=
  ⟨u, .done, rfl, h, nofun⟩

theorem answers_data {s u : State} (h : Effect s u) (v : Data) : Answers s (.next (u.respond (.data v))) :=
  ⟨u, .data v, rfl, h, nofun⟩

theorem answers_read {s u : State} (h : Effect s u) (x : Word) (sz : AccessSize) : Answers s (completeRead x sz u) :=
  answers_data h _

theorem answers_readWriteOnly (s : State) (off : Off) : Answers s (readWriteOnly off s) :=
  answers_data (effect_logDiag (.refl s) _ _) _

theorem answers_writeReadOnly (s : State) (off : Off) : Answers s (writeReadOnly off s) :=
  answers_write (effect_logDiag (.refl s) _ _)

theorem answers_command {s : State} {r : ResultCode × State} (h : FailsClean s r) : Answers s (completeCommand r) := by
  refine ⟨r.2, .result r.1 .none, rfl, h.effect, fun code record hr hne => ?_⟩
  obtain ⟨rfl, rfl⟩ := Response.result.inj hr
  exact ⟨rfl, h.error hne⟩

theorem answers_record (s : State) (record : ResultRecord) : Answers s (.next (s.respond (.result .ok record))) :=
  ⟨s, _, rfl, .refl s, fun _ _ hr hne => absurd (Response.result.inj hr).1.symm hne⟩

theorem answers_status {s u : State} (h : Effect s u) (st : RenderStatus) :
    Answers s (.next (u.respond (.status st))) :=
  ⟨u, .status st, rfl, h, nofun⟩

theorem answers_finishRender (s : State) (job : RenderJob) : Answers s (.next (s.finishRender job)) :=
  ⟨_, _, rfl, ⟨rfl, rfl, rfl, rfl⟩, nofun⟩

/-- RENDER answers, unless the gate lets it go and choices are offered for its inside. -/
theorem execRender_cases (s : State) :
    Answers s (execRender s) ∨
    (s.gate = none ∧ s.sched ≠ [] ∧ execRender s = .next { s with render := some s.beginRender }) := by
  unfold execRender
  split
  · exact .inl (answers_status (.refl s) _)
  · next hgate =>
    split
    · exact .inl (answers_finishRender s _)
    · next hsched => exact .inr ⟨hgate, by simp [hsched], rfl⟩

/-- Every operation answers, but for a render that stays in progress. -/
theorem exec_cases (i : Instr) (s : State) :
    Answers s (exec i s) ∨
    (i = .render ∧ s.gate = none ∧ s.sched ≠ [] ∧ exec i s = .next { s with render := some s.beginRender }) := by
  cases i with
  | render => exact (execRender_cases s).imp_right fun h => ⟨rfl, h⟩
  | rdCursorUpload | rdPageFlip => exact .inl (answers_readWriteOnly s _)
  | wrDeviceId | wrStatus | wrFbCurrent | wrFlipPending | wrVblankCount => exact .inl (answers_writeReadOnly s _)
  | rdStatus =>
    exact .inl (answers_read (s := s) (u := { s with draws := s.draws + 1 }) ⟨rfl, rfl, rfl, rfl⟩ _ _)
  | rdDeviceId | rdControl | rdFbAddr | rdFbWidth | rdFbHeight | rdFbBpp | rdFbEnable | rdFbPitch | rdCursorX
  | rdCursorY | rdCursorEnable | rdCursorHotspotX | rdCursorHotspotY | rdFbCount | rdFbCurrent | rdFbNext
  | rdFlipPending | rdVblankCount => exact .inl (answers_read (.refl s) _ _)
  | rdUnmapped => exact .inl (answers_data (effect_logDiag (.refl s) _ _) _)
  | wrUnmapped => exact .inl (answers_write (effect_logDiag (.refl s) _ _))
  | vrd => exact .inl (answers_data (.refl s) _)
  | vwr => exact .inl (answers_write (effect_ite ⟨rfl, rfl, rfl, rfl⟩ (.refl s)))
  | wrControl => exact .inl (answers_write (effect_writeControl s _))
  | wrFbEnable => exact .inl (answers_write (effect_writeFbEnable s _))
  | wrFbAddr | wrFbWidth | wrFbHeight | wrFbBpp | wrFbPitch | wrCursorX | wrCursorY | wrCursorEnable
  | wrCursorHotspotX | wrCursorHotspotY => exact .inl (answers_write ⟨rfl, rfl, rfl, rfl⟩)
  | wrCursorUpload => exact .inl (answers_write (effect_uploadPixel s _))
  | wrFbCount => exact .inl (answers_write (effect_absorbFailure (failsClean_setupMulti s _ _ _ _) _))
  | wrFbNext => exact .inl (answers_write (effect_ite ⟨rfl, rfl, rfl, rfl⟩ (effect_logDiag (.refl s) _ _)))
  | wrPageFlip =>
    exact .inl (answers_write (effect_ite (effect_absorbFailure (failsClean_requestFlip s _) _) (.refl s)))
  | setupSingle => exact .inl (answers_command (failsClean_setupSingle s _ _ _))
  | setupMulti => exact .inl (answers_command (failsClean_setupMulti s _ _ _ _))
  | requestFlip => exact .inl (answers_command (failsClean_requestFlip s _))
  | uploadBulk => exact .inl (answers_command (failsClean_uploadBulk s _ _))
  | waitForFlip => exact .inl (answers_command (failsClean_unchanged s _))
  | describe | getVramSize => exact .inl (answers_record s _)
  | enableDisplay => exact .inl (answers_command (failsClean_ok (effect_writeFbEnable s _)))
  | uploadPixel => exact .inl (answers_command (failsClean_ok (effect_uploadPixel s _)))
  | setPosition | setHotspot | setEnabled => exact .inl (answers_command (failsClean_ok ⟨rfl, rfl, rfl, rfl⟩))

/-- Settles O51: a result other than Ok comes from a command's failure, which has no effect. -/
theorem errorsChangeNothing : Obligations.ErrorsChangeNothing := by
  intro i s t code record hexec hout hne
  rcases exec_cases i s with ⟨u, r, hr, heff, herr⟩ | ⟨-, -, -, hr⟩
  · obtain rfl := Host.Outcome.next.inj (hexec.symm.trans hr)
    have hlast : r = .result code record := by simpa [heff.out] using hout
    obtain ⟨rfl, rfl⟩ := herr code record hlast hne
    rw [hlast]
    rfl
  · obtain rfl := Host.Outcome.next.inj (hexec.symm.trans hr)
    simp at hout

/-! ## Which step comes next -/

theorem step_idle {s : State} (h : s.render = none) : step s = operationStep s := by
  simp [step, machineStep, h]

theorem step_insideRender {s : State} {job : RenderJob} (h : s.render = some job) : step s = insideRenderStep job s := by
  simp [step, machineStep, h]

theorem operationStep_ok {s : State} {i : Instr} {rest : List Word} (h : decode s.input = .ok i rest) :
    operationStep s = exec i { s with input := rest } := by
  simp [operationStep, h]

theorem operationStep_empty {s : State} (h : s.input = []) : operationStep s = .next s := by
  simp [operationStep, decode, h]

/-- A step that is not refused idles, runs the operation offered next, or goes on inside a render. -/
theorem step_cases {s t : State} (h : step s = .next t) :
    (s.render = none ∧ decode s.input = .bad .empty ∧ t = s) ∨
    (∃ i rest, s.render = none ∧ decode s.input = .ok i rest ∧ exec i { s with input := rest } = .next t) ∨
    (∃ job, s.render = some job ∧ insideRenderStep job s = .next t) := by
  rcases Option.eq_none_or_eq_some s.render with hren | ⟨job, hren⟩
  · rw [step_idle hren] at h
    unfold operationStep at h
    split at h
    · exact .inr (.inl ⟨_, _, hren, ‹_›, h⟩)
    · exact .inl ⟨hren, ‹_›, (Host.Outcome.next.inj h).symm⟩
    · cases h
    · cases h
  · exact .inr (.inr ⟨job, hren, step_insideRender hren ▸ h⟩)

/-- Settles O7: outside a render the step is the operation's step, which the decoder's answer selects. -/
theorem stepRunsTheDecodedOperation : Obligations.StepRunsTheDecodedOperation := fun _ hren =>
  ⟨fun _ _ hdec => (step_idle hren).trans (operationStep_ok hdec),
    fun hin => (step_idle hren).trans (operationStep_empty hin)⟩

/-! ## The parameters are constant (00_scope.md R7) -/

theorem exec_params {i : Instr} {s t : State} (h : exec i s = .next t) : t.params = s.params := by
  rcases exec_cases i s with ⟨u, r, hr, heff, -⟩ | ⟨-, -, -, hr⟩
  · obtain rfl := Host.Outcome.next.inj (h.symm.trans hr)
    exact heff.params
  · obtain rfl := Host.Outcome.next.inj (h.symm.trans hr)
    rfl

theorem renderAdvance_params (s : State) (job : RenderJob) (pick : Nat) :
    (s.renderAdvance job pick).params = s.params := by
  by_cases h : job.todo = []
  · rw [renderAdvance_nil h]
    rfl
  · rw [renderAdvance_cons h]

theorem insideRenderStep_params {job : RenderJob} {s t : State} (h : insideRenderStep job s = .next t) :
    t.params = s.params := by
  rcases insideRenderStep_cases job s with ⟨-, e⟩ | ⟨pick, cs, e⟩ | ⟨i, rest, cs, -, -, e⟩
  · obtain rfl := Host.Outcome.next.inj (h.symm.trans e)
    rfl
  · obtain rfl := Host.Outcome.next.inj (h.symm.trans e)
    exact renderAdvance_params _ job pick
  · exact (exec_params (e.symm.trans h) :)

theorem step_params {s t : State} (h : step s = .next t) : t.params = s.params := by
  rcases step_cases h with ⟨-, -, rfl⟩ | ⟨i, rest, -, -, he⟩ | ⟨job, -, hin⟩
  · rfl
  · exact (exec_params he :)
  · exact insideRenderStep_params hin

/-- Settles O59, by induction over the run. -/
theorem parametersAreConstant : Obligations.ParametersAreConstant := fun _ s _ hrun =>
  run_induction (P := fun u => u.params = s.params) (fun _ _ hu hstep => (step_params hstep).trans hu) rfl hrun

end Sys2Proof.Proofs
end

section
/-! SUPPORT. What an operation and a step can change of VRAM, the framebuffer set, the vblank count and dirty, each
said once, and the invariants of 10_state.md that follow (R36, R41, R42, R45, R46). -/

namespace Sys2Proof.Proofs

open Sys2Proof.Machine Sys2Proof.Claims

/-! ## Effects that keep VRAM, the set and the vblank count -/

/-- `t` has the VRAM, the count, the slice size and the vblank count of `s`, and dirty has not been cleared. -/
structure Keeps (s t : State) : Prop where
  vram : t.vram = s.vram
  fbCount : t.fbCount = s.fbCount
  fbSize : t.fbSize = s.fbSize
  vblankCount : t.vblankCount = s.vblankCount
  dirty : s.dirty = true → t.dirty = true

theorem Keeps.refl (s : State) : Keeps s s := ⟨rfl, rfl, rfl, rfl, id⟩

theorem Keeps.trans {s t u : State} (h : Keeps s t) (h' : Keeps t u) : Keeps s u :=
  ⟨h'.vram.trans h.vram, h'.fbCount.trans h.fbCount, h'.fbSize.trans h.fbSize, h'.vblankCount.trans h.vblankCount,
    h'.dirty ∘ h.dirty⟩

theorem keeps_ite {s u v : State} {c : Prop} [Decidable c] (hu : Keeps s u) (hv : Keeps s v) :
    Keeps s (if c then u else v) := by
  split
  · exact hu
  · exact hv

theorem keeps_writeControl (s : State) (v : Word) : Keeps s (s.writeControl v) :=
  keeps_ite ⟨rfl, rfl, rfl, rfl, fun _ => rfl⟩ ⟨rfl, rfl, rfl, rfl, id⟩

theorem keeps_writeFbEnable (s : State) (v : Word) : Keeps s (s.writeFbEnable v) :=
  keeps_ite ⟨rfl, rfl, rfl, rfl, fun _ => rfl⟩ ⟨rfl, rfl, rfl, rfl, id⟩

theorem keeps_uploadPixel (s : State) (p : Word) : Keeps s (s.uploadPixel p) := by
  rcases uploadPixel_cases s p with ⟨_, e⟩ | ⟨-, e⟩ <;> rw [e]
  · exact ⟨rfl, rfl, rfl, rfl, id⟩
  · exact ⟨rfl, rfl, rfl, rfl, fun _ => rfl⟩

theorem keeps_uploadPixels (s : State) (ps : List Word) : Keeps s (s.uploadPixels ps) := by
  induction ps generalizing s with
  | nil => exact .refl s
  | cons p ps ih => exact (keeps_uploadPixel s p).trans (ih _)

theorem keeps_uploadBulk (s : State) (count : Word) (pixels : List Word) :
    Keeps s (s.uploadBulk count pixels).2 := by
  rcases uploadBulk_cases s count pixels with ⟨-, e⟩ | ⟨-, -, e⟩ <;> rw [e]
  · exact .refl s
  · exact keeps_uploadPixels s _

theorem keeps_setupSingle (s : State) (w h bpp : Word) : Keeps s (s.setupSingle w h bpp).2 := by
  rcases setupSingle_cases s w h bpp with ⟨-, e⟩ | ⟨-, e⟩ <;> rw [e]
  · exact .refl s
  · exact ⟨rfl, rfl, rfl, rfl, fun _ => rfl⟩

/-! ## What an operation can change -/

/-- The operation is a setup_multi of these arguments, by command or by an FB_COUNT write
(41_framebuffer_manager.md R151, R171). -/
def SetsUp (i : Instr) (s : State) (count w h bpp : Word) : Prop :=
  i = .setupMulti count w h bpp ∨
    w = s.fbWidth ∧ h = s.fbHeight ∧ bpp = s.fbBpp ∧ ∃ sz d, i = .wrFbCount sz d

/-- The operation is a request_flip of this index, by command or by a PAGE_FLIP write
(41_framebuffer_manager.md R152, R177). -/
def Flips (i : Instr) (s : State) (index : Word) : Prop :=
  (∃ wait, i = .requestFlip index wait) ∨ index = s.next ∧ ∃ sz d, i = .wrPageFlip sz d

/-- What operation `i` can do to `s`: four operations change what `Keeps` names, each in one way. -/
inductive Change (i : Instr) (s : State) : State → Prop
  | keeps {t : State} (h : Keeps s t) : Change i s t
  | vramWrite {sz : AccessSize} {addr : Word} {d : Data} (hi : i = .vwr sz addr d)
      (hend : addr.toNat + sizeBytes sz ≤ s.params.vramSize) :
      Change i s (State.respond
        { s with
          vram := Memory.writeLE s.vram addr.toNat (sizeBytes sz) (vramWriteValue d sz)
          dirty := true } .done)
  | setup {count w h bpp : Word} (hi : SetsUp i s count w h bpp)
      (hfit : bufferSize w h bpp * count.toNat ≤ s.params.vramSize) (r : Response) :
      Change i s ((multiSet count w h bpp s).respond r)
  | flip {index : Word} (hi : Flips i s index) (hindex : index.toNat < s.fbCount.toNat) (r : Response) :
      Change i s ((flipped index s).respond r)
  | rendered (hi : i = .render) : Change i s (s.finishRender s.beginRender)

theorem Change.respond {s u : State} (i : Instr) (h : Keeps s u) (r : Response) : Change i s (u.respond r) :=
  .keeps (h.trans ⟨rfl, rfl, rfl, rfl, id⟩)

theorem change_setupMulti {i : Instr} {s : State} {count w h bpp : Word} (hi : SetsUp i s count w h bpp)
    (r : Response) : Change i s ((s.setupMulti count w h bpp).2.respond r) := by
  rcases setupMulti_cases s count w h bpp with ⟨-, e⟩ | ⟨-, -, -, e⟩ | ⟨-, -, hfit, e⟩ <;> rw [e]
  · exact .respond i (.refl s) r
  · exact .respond i (.refl s) r
  · exact .setup hi hfit r

/-- The count of a successful flip goes up by one modulo 2^32 (10_state.md R41). -/
theorem word_add_one (v : Word) : v + 1 = BitVec.ofNat 32 (v.toNat + 1) := by
  bv_omega

theorem change_requestFlip {i : Instr} {s : State} {index : Word} (hi : Flips i s index) (r : Response) :
    Change i s ((s.requestFlip index).2.respond r) := by
  rcases requestFlip_cases s index with ⟨-, e⟩ | ⟨-, -, e⟩ | ⟨hindex, -, e⟩ <;> rw [e]
  · exact .respond i (.refl s) r
  · exact .respond i (.refl s) r
  · rw [word_add_one]
    exact .flip hi hindex r

/-- A failure absorbed on the register port changes the log alone (60_exceptions.md R301). -/
theorem change_absorbFailure {i : Instr} {s : State} {r : ResultCode × State} (hr : FailsClean s r)
    (h : Change i s (r.2.respond .done)) (off : Off) : Change i s ((absorbFailure off r).respond .done) := by
  by_cases hok : r.1 = .ok
  · obtain ⟨code, u⟩ := r
    subst hok
    exact h
  · rw [absorbFailure_error hok, hr.error hok]
    exact .keeps ⟨rfl, rfl, rfl, rfl, id⟩

theorem change_vwr (s : State) (sz : AccessSize) (addr : Word) (d : Data) :
    ∃ t, execVwr sz addr d s = .next t ∧ Change (.vwr sz addr d) s t := by
  refine ⟨_, rfl, ?_⟩
  split
  · next hin => exact .vramWrite rfl (by simpa [State.inVram] using hin)
  · exact .respond _ (.refl s) _

theorem change_render (s : State) : ∃ t, execRender s = .next t ∧ Change .render s t := by
  unfold execRender
  split
  · exact ⟨_, rfl, .respond _ (.refl s) _⟩
  · split
    · exact ⟨_, rfl, .rendered rfl⟩
    · exact ⟨_, rfl, .keeps ⟨rfl, rfl, rfl, rfl, id⟩⟩

theorem exec_change (i : Instr) (s : State) : ∃ t, exec i s = .next t ∧ Change i s t := by
  cases i with
  | vwr sz addr d => exact change_vwr s sz addr d
  | render => exact change_render s
  | setupMulti => exact ⟨_, rfl, change_setupMulti (.inl rfl) _⟩
  | wrFbCount =>
    exact ⟨_, rfl, change_absorbFailure (failsClean_setupMulti s _ _ _ _)
      (change_setupMulti (.inr ⟨rfl, rfl, rfl, _, _, rfl⟩) _) _⟩
  | requestFlip => exact ⟨_, rfl, change_requestFlip (.inl ⟨_, rfl⟩) _⟩
  | wrPageFlip =>
    refine ⟨_, rfl, ?_⟩
    split
    · exact change_absorbFailure (failsClean_requestFlip s _) (change_requestFlip (.inr ⟨rfl, _, _, rfl⟩) _) _
    · exact .respond _ (.refl s) _
  | wrControl => exact ⟨_, rfl, .respond _ (keeps_writeControl s _) _⟩
  | wrFbEnable | enableDisplay => exact ⟨_, rfl, .respond _ (keeps_writeFbEnable s _) _⟩
  | wrCursorUpload | uploadPixel => exact ⟨_, rfl, .respond _ (keeps_uploadPixel s _) _⟩
  | uploadBulk => exact ⟨_, rfl, .respond _ (keeps_uploadBulk s _ _) _⟩
  | setupSingle => exact ⟨_, rfl, .respond _ (keeps_setupSingle s _ _ _) _⟩
  | wrFbNext =>
    refine ⟨_, rfl, .respond _ (keeps_ite ?_ ?_) _⟩
    · exact ⟨rfl, rfl, rfl, rfl, id⟩
    · exact ⟨rfl, rfl, rfl, rfl, id⟩
  | wrFbAddr | wrFbWidth | wrFbHeight | wrFbBpp | wrFbPitch | wrCursorX | wrCursorY | wrCursorEnable | setPosition
  | setEnabled => exact ⟨_, rfl, .keeps ⟨rfl, rfl, rfl, rfl, fun _ => rfl⟩⟩
  | wrCursorHotspotX | wrCursorHotspotY | setHotspot | waitForFlip | describe | getVramSize | vrd
  | wrDeviceId | wrStatus | wrFbCurrent | wrFlipPending | wrVblankCount | wrUnmapped
  | rdDeviceId | rdStatus | rdControl | rdFbAddr | rdFbWidth | rdFbHeight | rdFbBpp | rdFbEnable | rdFbPitch
  | rdCursorX | rdCursorY | rdCursorEnable | rdCursorHotspotX | rdCursorHotspotY | rdCursorUpload | rdFbCount
  | rdFbCurrent | rdFbNext | rdPageFlip | rdFlipPending | rdVblankCount | rdUnmapped =>
    exact ⟨_, rfl, .keeps ⟨rfl, rfl, rfl, rfl, id⟩⟩

theorem change_of_exec {i : Instr} {s t : State} (h : exec i s = .next t) : Change i s t := by
  obtain ⟨u, hu, hc⟩ := exec_change i s
  obtain rfl := Host.Outcome.next.inj (h.symm.trans hu)
  exact hc

/-- Settles O47: of the cases of `Change`, only a flip changes the vblank count. -/
theorem onlyFlipsCountVblanks : Obligations.OnlyFlipsCountVblanks := by
  intro i s t hexec hne
  cases change_of_exec hexec with
  | keeps h => exact absurd h.vblankCount hne
  | vramWrite | setup | rendered => exact absurd rfl hne
  | flip hi hindex =>
    refine ⟨rfl, rfl, rfl, hindex, ?_⟩
    rcases hi with ⟨wait, hi⟩ | ⟨hnext, sz, d, hi⟩
    · exact .inl ⟨_, wait, hi, rfl⟩
    · exact .inr ⟨sz, d, hi, hnext⟩

/-- Settles O58: of the cases of `Change`, only a setup_multi changes the slice size or the count. -/
theorem onlySetupMultiSetsTheSliceSize : Obligations.OnlySetupMultiSetsTheSliceSize := by
  intro i s t hexec hne
  cases change_of_exec hexec with
  | keeps h => exact hne.elim (absurd h.fbSize) (absurd h.fbCount)
  | vramWrite | flip | rendered => exact hne.elim (absurd rfl) (absurd rfl)
  | setup hi hfit =>
    refine ⟨rfl, rfl, hfit, ?_⟩
    rcases hi with hi | ⟨rfl, rfl, rfl, sz, d, hi⟩
    · exact .inl ⟨_, _, _, _, hi, rfl, rfl⟩
    · exact .inr ⟨sz, d, hi, rfl⟩

/-! ## What a step can change -/

/-- A step keeps VRAM and the set, ends a render, or runs the operation offered next. -/
theorem step_change {s t : State} (h : step s = .next t) :
    Keeps s t ∨
    (∃ sched job scratch, t = State.present { s with sched := sched } job scratch) ∨
    (∃ i rest sched, decode s.input = .ok i rest ∧ Change i { s with input := rest, sched := sched } t) := by
  rcases step_cases h with ⟨-, -, rfl⟩ | ⟨i, rest, -, hdec, he⟩ | ⟨job, -, hin⟩
  · exact .inl (.refl _)
  · exact .inr (.inr ⟨i, rest, s.sched, hdec, change_of_exec he⟩)
  · rcases insideRenderStep_cases job s with ⟨-, e⟩ | ⟨pick, cs, e⟩ | ⟨i, rest, cs, -, hdec, e⟩
    · exact .inr (.inl ⟨s.sched, job, _, Host.Outcome.next.inj (hin.symm.trans e)⟩)
    · obtain rfl := Host.Outcome.next.inj (hin.symm.trans e)
      by_cases htodo : job.todo = []
      · exact .inr (.inl ⟨cs, job, _, renderAdvance_nil htodo pick⟩)
      · rw [renderAdvance_cons htodo]
        exact .inl ⟨rfl, rfl, rfl, rfl, id⟩
    · exact .inr (.inr ⟨i, rest, cs, hdec, change_of_exec (e.symm.trans hin)⟩)

/-- Settles O45: of what a step can do, only a VRAM-port write changes VRAM, and it keeps the bytes it does not cover. -/
theorem onlyVramWritesChangeVram : Obligations.OnlyVramWritesChangeVram := by
  intro s t hstep hne
  rcases step_change hstep with h | ⟨sched, job, scratch, rfl⟩ | ⟨i, rest, sched, hdec, hc⟩
  · exact absurd h.vram hne
  · exact absurd rfl hne
  · cases hc with
    | keeps h => exact absurd h.vram hne
    | setup | flip | rendered => exact absurd rfl hne
    | vramWrite hi hend =>
      subst hi
      exact ⟨_, _, _, hdec, hend, rfl, fun _ ha => Memory.byte_writeLE_outside _ _ _ _ ha⟩

/-- `t` is `s` after the last step of a render, whatever words and choices were consumed. -/
def RenderEnds (s t : State) : Prop :=
  t.out = s.out ++ [.status .rendered] ∧ t.render = none ∧
    t = { s with
      surface := t.surface, dirty := false, render := none, input := t.input, sched := t.sched, out := t.out }

theorem renderEnds_present (s : State) (input : List Word) (sched : List Choice) (job : RenderJob)
    (scratch : Array Byte) :
    RenderEnds s (State.present { s with input := input, sched := sched } job scratch) := ⟨rfl, rfl, rfl⟩

/-- Settles O46: of what a step can do, only the last step of a render clears dirty. -/
theorem onlyARenderClearsDirty : Obligations.OnlyARenderClearsDirty := by
  intro s t hstep hs ht
  rcases step_change hstep with h | ⟨sched, job, scratch, rfl⟩ | ⟨i, rest, sched, -, hc⟩
  · exact absurd (h.dirty hs) (Bool.eq_false_iff.mp ht)
  · exact renderEnds_present s s.input sched job scratch
  · cases hc with
    | keeps h => exact absurd (h.dirty hs) (Bool.eq_false_iff.mp ht)
    | vramWrite | setup | flip => cases ht
    | rendered => exact renderEnds_present s rest sched _ _

end Sys2Proof.Proofs
end

section
/-! SUPPORT. No operation reads the diagnostic log (10_state.md R48). -/

namespace Sys2Proof.Proofs

open Sys2Proof.Machine

/-- The state with another diagnostic log. -/
def relog (d : List DiagEvent) (s : State) : State := { s with diag := d }

/-- In `s`, `f` does not read the log, and appends the same events, at most one, to any log. -/
def LogBlind (s : State) (f : State → StepOutcome) : Prop :=
  ∃ (u : State) (e : List DiagEvent), e.length ≤ 1 ∧ ∀ d, f (relog d s) = .next (relog (d ++ e) u)

theorem logBlind_silent {s : State} {f : State → StepOutcome} (u : State)
    (h : ∀ d, f (relog d s) = .next (relog d u)) : LogBlind s f :=
  ⟨u, [], by simp, by simpa using h⟩

theorem logBlind_event {s : State} {f : State → StepOutcome} (u : State) (e : DiagEvent)
    (h : ∀ d, f (relog d s) = .next (relog (d ++ [e]) u)) : LogBlind s f :=
  ⟨u, [e], by simp, h⟩

theorem logBlind_congr {s : State} {f g : State → StepOutcome} (hg : LogBlind s g)
    (h : ∀ d, f (relog d s) = g (relog d s)) : LogBlind s f := by
  obtain ⟨u, e, he, heq⟩ := hg
  exact ⟨u, e, he, fun d => (h d).trans (heq d)⟩

/-! ## Operations that always log, or never do -/

theorem logBlind_respond {s : State} (g : State → State) (r : State → Response)
    (hg : ∀ d, g (relog d s) = relog d (g s)) (hr : ∀ d, r (relog d s) = r s) :
    LogBlind s fun u => .next ((g u).respond (r u)) :=
  logBlind_silent ((g s).respond (r s)) fun d => by rw [hg d, hr d]; rfl

theorem logBlind_write {s : State} (g : State → State) (hg : ∀ d, g (relog d s) = relog d (g s)) :
    LogBlind s fun u => completeWrite (g u) :=
  logBlind_respond g (fun _ => .done) hg fun _ => rfl

theorem logBlind_loggedRead (s : State) (kind : DiagKind) (off : Off) :
    LogBlind s fun u => .next ((u.logDiag kind off).respond (.data 0)) :=
  logBlind_event (s.respond (.data 0)) ⟨kind, off⟩ fun _ => rfl

theorem logBlind_loggedWrite (s : State) (kind : DiagKind) (off : Off) :
    LogBlind s fun u => completeWrite (u.logDiag kind off) :=
  logBlind_event (s.respond .done) ⟨kind, off⟩ fun _ => rfl

theorem relog_ite {d : List DiagEvent} {c c' : Prop} [Decidable c] [Decidable c'] {u u' v v' : State} (hc : c' ↔ c)
    (hu : u' = relog d u) (hv : v' = relog d v) : (if c' then u' else v') = relog d (if c then u else v) := by
  simp only [hc, hu, hv, apply_ite (relog d)]

theorem relog_writeControl (s : State) (d : List DiagEvent) (v : Word) :
    (relog d s).writeControl v = relog d (s.writeControl v) :=
  relog_ite .rfl rfl rfl

theorem relog_writeFbEnable (s : State) (d : List DiagEvent) (v : Word) :
    (relog d s).writeFbEnable v = relog d (s.writeFbEnable v) :=
  relog_ite .rfl rfl rfl

theorem relog_uploadPixel (s : State) (d : List DiagEvent) (p : Word) :
    (relog d s).uploadPixel p = relog d (s.uploadPixel p) := by
  by_cases h : s.uploadCursor.val + 1 < 4096
  · simp [State.uploadPixel, relog, h]
  · simp [State.uploadPixel, relog, h]

theorem relog_uploadPixels (s : State) (d : List DiagEvent) (ps : List Word) :
    (relog d s).uploadPixels ps = relog d (s.uploadPixels ps) := by
  induction ps generalizing s with
  | nil => rfl
  | cons p ps ih => rw [uploadPixels_cons, uploadPixels_cons, relog_uploadPixel, ih]

/-! ## Commands that can fail -/

/-- In `s`, `g` neither reads the log nor changes it. -/
def CommandLogBlind (s : State) (g : State → ResultCode × State) : Prop :=
  ∀ d, g (relog d s) = (g s).map id (relog d)

theorem commandLogBlind_ite {s : State} {c : State → Prop} [DecidablePred c] {g g' : State → ResultCode × State}
    (hc : ∀ d, c (relog d s) ↔ c s) (hg : CommandLogBlind s g) (hg' : CommandLogBlind s g') :
    CommandLogBlind s fun u => if c u then g u else g' u := by
  intro d
  by_cases h : c s
  · simp [h, hc d, hg d]
  · simp [h, hc d, hg' d]

theorem setupSingle_logBlind (s : State) (w h bpp : Word) : CommandLogBlind s (·.setupSingle w h bpp) :=
  commandLogBlind_ite (fun _ => .rfl) (fun _ => rfl) (fun _ => rfl)

theorem setupMulti_logBlind (s : State) (count w h bpp : Word) : CommandLogBlind s (·.setupMulti count w h bpp) :=
  commandLogBlind_ite (fun _ => .rfl) (fun _ => rfl)
    (commandLogBlind_ite (fun _ => .rfl) (fun _ => rfl) (fun _ => rfl))

theorem requestFlip_logBlind (s : State) (index : Word) : CommandLogBlind s (·.requestFlip index) :=
  commandLogBlind_ite (fun _ => .rfl) (fun _ => rfl)
    (commandLogBlind_ite (fun _ => .rfl) (fun _ => rfl) (fun _ => rfl))

theorem uploadBulk_logBlind (s : State) (count : Word) (pixels : List Word) :
    CommandLogBlind s (·.uploadBulk count pixels) :=
  commandLogBlind_ite (fun _ => .rfl) (fun _ => rfl) fun d => by rw [relog_uploadPixels]; rfl

theorem logBlind_command {s : State} {g : State → ResultCode × State} (h : CommandLogBlind s g) :
    LogBlind s fun u => completeCommand (g u) :=
  logBlind_silent ((g s).2.respond (.result (g s).1 .none)) fun d => by rw [h d]; rfl

theorem logBlind_absorbFailure {s : State} {g : State → ResultCode × State} (h : CommandLogBlind s g) (off : Off) :
    LogBlind s fun u => completeWrite (absorbFailure off (g u)) := by
  by_cases hok : (g s).1 = .ok
  · refine logBlind_silent ((g s).2.respond .done) fun d => ?_
    have hg : g (relog d s) = (.ok, relog d (g s).2) := by rw [h d, ← hok]; rfl
    rw [hg]
    rfl
  · refine logBlind_event ((g s).2.respond .done) ⟨.rejectedWrite, off⟩ fun d => ?_
    rw [absorbFailure_error (by rw [h d]; exact hok), h d]
    rfl

/-! ## Operations that branch -/

theorem logBlind_wrFbNext (s : State) (sz : AccessSize) (data : Data) : LogBlind s (execWrFbNext sz data) := by
  by_cases h : (shapeWrite data sz).toNat < s.fbCount.toNat
  · exact logBlind_congr (logBlind_write (fun u => { u with next := shapeWrite data sz }) fun _ => rfl)
      fun _ => congrArg completeWrite (if_pos h)
  · exact logBlind_congr (logBlind_loggedWrite s .rejectedWrite 0x044) fun _ => congrArg completeWrite (if_neg h)

theorem logBlind_wrPageFlip (s : State) (sz : AccessSize) (data : Data) : LogBlind s (execWrPageFlip sz data) := by
  by_cases h : shapeWrite data sz ≠ 0
  · exact logBlind_congr
      (logBlind_absorbFailure (g := fun u => u.requestFlip u.next) (requestFlip_logBlind s s.next) 0x048)
      fun _ => congrArg completeWrite (if_pos h)
  · exact logBlind_congr (logBlind_write id fun _ => rfl) fun _ => congrArg completeWrite (if_neg h)

theorem execRender_noOp {s : State} {reason : NoOpReason} (h : s.gate = some reason) :
    execRender s = .next (s.respond (.status (.noOp reason))) := by
  simp [execRender, h]

theorem execRender_whole {s : State} (h : s.gate = none) (hsched : s.sched = []) :
    execRender s = .next (s.finishRender s.beginRender) := by
  simp [execRender, h, hsched]

theorem execRender_begin {s : State} (h : s.gate = none) (hsched : s.sched ≠ []) :
    execRender s = .next { s with render := some s.beginRender } := by
  obtain ⟨c, cs, hcons⟩ := List.exists_cons_of_ne_nil hsched
  simp [execRender, h, hcons]

theorem logBlind_render (s : State) : LogBlind s execRender := by
  rcases hgate : s.gate with _ | reason
  · by_cases hsched : s.sched = []
    · exact logBlind_silent (s.finishRender s.beginRender) fun d => execRender_whole (s := relog d s) hgate hsched
    · exact logBlind_silent { s with render := some s.beginRender } fun d =>
        execRender_begin (s := relog d s) hgate hsched
  · exact logBlind_silent (s.respond (.status (.noOp reason))) fun d => execRender_noOp (s := relog d s) hgate

/-! ## Every operation -/

theorem exec_logBlind (i : Instr) (s : State) : LogBlind s (exec i) := by
  cases i with
  | render => exact logBlind_render s
  | wrFbNext => exact logBlind_wrFbNext s _ _
  | wrPageFlip => exact logBlind_wrPageFlip s _ _
  | rdCursorUpload | rdPageFlip | rdUnmapped => exact logBlind_loggedRead s _ _
  | wrDeviceId | wrStatus | wrFbCurrent | wrFlipPending | wrVblankCount | wrUnmapped =>
    exact logBlind_loggedWrite s _ _
  | wrFbCount =>
    exact logBlind_absorbFailure
      (g := fun u => u.setupMulti _ u.fbWidth u.fbHeight u.fbBpp) (setupMulti_logBlind s _ _ _ _) _
  | setupSingle => exact logBlind_command (setupSingle_logBlind s _ _ _)
  | setupMulti => exact logBlind_command (setupMulti_logBlind s _ _ _ _)
  | requestFlip => exact logBlind_command (requestFlip_logBlind s _)
  | uploadBulk => exact logBlind_command (uploadBulk_logBlind s _ _)
  | wrControl => exact logBlind_write _ fun _ => relog_writeControl s _ _
  | wrFbEnable | enableDisplay => exact logBlind_respond _ _ (fun _ => relog_writeFbEnable s _ _) fun _ => rfl
  | wrCursorUpload | uploadPixel => exact logBlind_respond _ _ (fun _ => relog_uploadPixel s _ _) fun _ => rfl
  | vwr => exact logBlind_write _ fun _ => relog_ite .rfl rfl rfl
  | rdDeviceId | rdStatus | rdControl | rdFbAddr | rdFbWidth | rdFbHeight | rdFbBpp | rdFbEnable | rdFbPitch
  | rdCursorX | rdCursorY | rdCursorEnable | rdCursorHotspotX | rdCursorHotspotY | rdFbCount | rdFbCurrent | rdFbNext
  | rdFlipPending | rdVblankCount | vrd | waitForFlip | describe | getVramSize
  | wrFbAddr | wrFbWidth | wrFbHeight | wrFbBpp | wrFbPitch | wrCursorX | wrCursorY | wrCursorEnable
  | wrCursorHotspotX | wrCursorHotspotY | setPosition | setHotspot | setEnabled =>
    exact logBlind_respond _ _ (fun _ => rfl) fun _ => rfl

/-- Settles O55: the next state but for its log, and the events, are what `exec_logBlind` gives. -/
theorem nothingReadsTheDiagnosticLog : Obligations.NothingReadsTheDiagnosticLog := by
  intro i s t hexec
  obtain ⟨u, e, he, hblind⟩ := exec_logBlind i s
  obtain rfl : t = relog (s.diag ++ e) u := Host.Outcome.next.inj (hexec.symm.trans (hblind s.diag))
  exact ⟨e, he, rfl, hblind⟩

end Sys2Proof.Proofs
end

section
/-! SUPPORT. What a guest is returned does not depend on the state it cannot read (10_state.md R46, R51). -/

namespace Sys2Proof.Proofs

open Sys2Proof.Machine Sys2Proof.Claims

/-- The state no register-port or VRAM-port operation returns. -/
structure Hidden where
  dirty : Bool
  uploadCursor : Fin 4096
  fbSize : Nat
  bitmap : Vector Word 4096
  surface : Surface
  diag : List DiagEvent

/-- The state with another hidden part. -/
def withHidden (hd : Hidden) (s : State) : State :=
  { s with
    dirty := hd.dirty, uploadCursor := hd.uploadCursor, fbSize := hd.fbSize, bitmap := hd.bitmap
    surface := hd.surface, diag := hd.diag }

/-- In `s`, `f` returns one response, which does not depend on the hidden part. -/
def ReturnsBlind (s : State) (f : State → StepOutcome) : Prop :=
  ∃ r, ∀ hd, ∃ t, f (withHidden hd s) = .next t ∧ t.out = s.out ++ [r]

/-- An effect, and then a response made from the state before it. -/
theorem returnsBlind_respond {s : State} (g : State → State) (r : State → Response) (hg : ∀ u, Effect u (g u))
    (hr : ∀ hd, r (withHidden hd s) = r s) : ReturnsBlind s fun u => .next ((g u).respond (r u)) :=
  ⟨r s, fun hd => ⟨_, rfl, by rw [State.respond_out, (hg _).out, hr hd]; rfl⟩⟩

theorem returnsBlind_write (s : State) (g : State → State) (hg : ∀ u, Effect u (g u)) :
    ReturnsBlind s fun u => completeWrite (g u) :=
  returnsBlind_respond g (fun _ => .done) hg fun _ => rfl

theorem exec_returnsBlind {i : Instr} (hguest : isGuest i = true) (s : State) : ReturnsBlind s (exec i) := by
  cases i with
  | setupSingle | setupMulti | requestFlip | waitForFlip | describe | getVramSize | enableDisplay | setPosition
  | setHotspot | setEnabled | uploadPixel | uploadBulk | render => simp [isGuest, Instr.port] at hguest
  | rdStatus => exact returnsBlind_respond _ _ (fun _ => ⟨rfl, rfl, rfl, rfl⟩) fun _ => rfl
  | rdDeviceId | rdControl | rdFbAddr | rdFbWidth | rdFbHeight | rdFbBpp | rdFbEnable | rdFbPitch
  | rdCursorX | rdCursorY | rdCursorEnable | rdCursorHotspotX | rdCursorHotspotY | rdFbCount | rdFbCurrent | rdFbNext
  | rdFlipPending | rdVblankCount | vrd => exact returnsBlind_respond _ _ Effect.refl fun _ => rfl
  | rdCursorUpload | rdPageFlip | rdUnmapped =>
    exact returnsBlind_respond _ _ (fun u => effect_logDiag (.refl u) _ _) fun _ => rfl
  | wrDeviceId | wrStatus | wrFbCurrent | wrFlipPending | wrVblankCount | wrUnmapped =>
    exact returnsBlind_write s _ fun u => effect_logDiag (.refl u) _ _
  | wrControl => exact returnsBlind_write s _ fun u => effect_writeControl u _
  | wrFbEnable => exact returnsBlind_write s _ fun u => effect_writeFbEnable u _
  | wrCursorUpload => exact returnsBlind_write s _ fun u => effect_uploadPixel u _
  | wrFbCount =>
    exact returnsBlind_write s _ fun u => effect_absorbFailure (failsClean_setupMulti u _ _ _ _) _
  | wrFbNext =>
    exact returnsBlind_write s _ fun u => effect_ite ⟨rfl, rfl, rfl, rfl⟩ (effect_logDiag (.refl u) _ _)
  | wrPageFlip =>
    exact returnsBlind_write s _ fun u =>
      effect_ite (effect_absorbFailure (failsClean_requestFlip u _) _) (.refl u)
  | vwr => exact returnsBlind_write s _ fun u => effect_ite ⟨rfl, rfl, rfl, rfl⟩ (.refl u)
  | wrFbAddr | wrFbWidth | wrFbHeight | wrFbBpp | wrFbPitch | wrCursorX | wrCursorY | wrCursorEnable
  | wrCursorHotspotX | wrCursorHotspotY => exact returnsBlind_write s _ fun _ => ⟨rfl, rfl, rfl, rfl⟩

/-- What the operation returns after `s` is what it returns with any other hidden part. -/
theorem out_eq_of_withHidden {i : Instr} (hguest : isGuest i = true) {s t t' : State} {hd : Hidden}
    (h : exec i s = .next t) (h' : exec i (withHidden hd s) = .next t') : t'.out = t.out := by
  obtain ⟨r, hr⟩ := exec_returnsBlind hguest s
  have hout (hd : Hidden) (u : State) (hu : exec i (withHidden hd s) = .next u) : u.out = s.out ++ [r] := by
    obtain ⟨v, hv, hvout⟩ := hr hd
    obtain rfl := Host.Outcome.next.inj (hu.symm.trans hv)
    exact hvout
  have hself : withHidden ⟨s.dirty, s.uploadCursor, s.fbSize, s.bitmap, s.surface, s.diag⟩ s = s := rfl
  exact (hout hd t' h').trans (hout _ t (hself ▸ h)).symm

/-- Settles O56: a guest operation's one response is the same whatever the hidden part. -/
theorem guestCannotReadHiddenState : Obligations.GuestCannotReadHiddenState :=
  fun _ _ _ _ dirty u size bm f d hguest h h' =>
    out_eq_of_withHidden (hd := ⟨dirty, u, size, bm, f, d⟩) hguest h h'

end Sys2Proof.Proofs
end

section
/-! SUPPORT. The attach values (10_state.md R20) and the STATUS register (10_state.md R24). -/

namespace Sys2Proof.Proofs

open Sys2Proof.Machine

/-! ## Attach -/

theorem defaultCursorBitmap_getElem (i : Fin 4096) : Config.defaultCursorBitmap[i] = Config.defaultCursorPixel i := by
  simp [Config.defaultCursorBitmap]

/-- An address nothing has written holds its VRAM_INIT byte (10_state.md R45). -/
theorem byte_nil (a : Nat) : Memory.byte [] a = Config.vramInit a := rfl

/-- Settles O1: field by field; only the bitmap and VRAM are not their fields' values. -/
theorem resetHoldsAttachValues : Obligations.ResetHoldsAttachValues :=
  ⟨⟨rfl, rfl, rfl, rfl, rfl, rfl, rfl⟩, ⟨rfl, rfl, rfl, rfl, rfl⟩, ⟨rfl, rfl, rfl, rfl, rfl, rfl⟩,
    defaultCursorBitmap_getElem, rfl, rfl, byte_nil, rfl, rfl, rfl, rfl, rfl⟩

/-! ## Register read headers (30_encoding.md R81, R83) -/

theorem sizeBytes_eq_pow (sz : AccessSize) : sizeBytes sz = 2 ^ szOfSize sz := by
  cases sz <;> rfl

/-- The only SZ with `1 << SZ` bytes is the one that spells the size (30_encoding.md R83). -/
theorem eq_szOfSize {sz : AccessSize} {n : Nat} (h : sizeBytes sz = 2 ^ n) : n = szOfSize sz :=
  Nat.pow_right_injective le_rfl (h.symm.trans (sizeBytes_eq_pow sz))

theorem szOfSize_lt (sz : AccessSize) : szOfSize sz < 4 := by
  cases sz <;> decide

theorem sizeOfSz_szOfSize (sz : AccessSize) : sizeOfSz (szOfSize sz) = sz := by
  cases sz <;> rfl

theorem decode_of_regReadHeader {h : Word} {sz : AccessSize} {off : Nat} (hoff : off < 4096)
    (hh : h.toNat = szOfSize sz * 2 ^ 27 + off) (ws : List Word) :
    decode (h :: ws) = .ok (regRead (BitVec.ofNat 12 off) sz) ws := by
  have hsz := szOfSize_lt sz
  have hrsv : headerRsv h = 0 := by rw [headerRsv, hh]; omega
  have hport : headerPort h = 0 := by rw [headerPort, hh]; omega
  have hw : headerW h = 0 := by rw [headerW, hh]; omega
  have hszField : headerSz h = szOfSize sz := by rw [headerSz, hh]; omega
  have hoffField : headerOff h = off := by rw [headerOff, hh]; omega
  simp [decode, decodeRegister, hrsv, hport, hw, hszField, hoffField, sizeOfSz_szOfSize]

/-- The header `(SZ << 27) | off` spells the register read at `off`. -/
theorem decode_regRead {sz : AccessSize} {n off : Nat} (hsz : sizeBytes sz = 2 ^ n) (hoff : off < 4096)
    (ws : List Word) :
    decode (BitVec.ofNat 32 (n * 2 ^ 27 + off) :: ws) = .ok (regRead (BitVec.ofNat 12 off) sz) ws := by
  obtain rfl := eq_szOfSize hsz
  have hlt := szOfSize_lt sz
  refine decode_of_regReadHeader hoff ?_ ws
  rw [BitVec.toNat_ofNat, Nat.mod_eq_of_lt (by omega)]

/-! ## STATUS -/

/-- READY, the free bit and CURSOR_LOADED, and zeros above them (10_state.md R24). -/
theorem statusWord_toNat (b : BitVec 1) (loaded : Bool) :
    (statusWord b loaded).toNat = 1 + 2 * b.toNat + (if loaded then 4 else 0) := by
  revert b loaded
  decide

/-- The smallest access covers the three bits of STATUS. -/
theorem shapeRead_statusWord (b : BitVec 1) (loaded : Bool) (sz : AccessSize) :
    (shapeRead (statusWord b loaded) sz).toNat = (statusWord b loaded).toNat := by
  have hlt : (statusWord b loaded).toNat < 2 ^ 8 := by
    have := b.isLt
    rw [statusWord_toNat]
    split <;> omega
  have hle : 2 ^ 8 ≤ 2 ^ (8 * sizeBytes sz) := by
    apply Nat.pow_le_pow_right (by decide)
    rcases sizeBytes_cases sz with e | e | e | e <;> omega
  rw [shapeRead_toNat, Nat.mod_eq_of_lt (hlt.trans_le hle)]

/-- Settles O13: the header decodes, and the value is the status word, which every access size holds whole. -/
theorem statusRead : Obligations.StatusRead := fun sz _ s ws hsz =>
  ⟨decode_regRead hsz (by decide) ws, _, rfl, (shapeRead_statusWord _ _ sz).trans (statusWord_toNat _ _)⟩

end Sys2Proof.Proofs
end

section
/-! SUPPORT. The VRAM port: a write followed by a read of some of its bytes (20_memory.md R62, R64), and what reads
change (20_memory.md R67). -/

namespace Sys2Proof.Proofs

open Sys2Proof.Machine Sys2Proof.Claims

/-! ## Reading after writing (20_memory.md R62) -/

/-- A read of `n` of the `w` bytes written, from the `k`-th on, is that base-256 digit range of the value. -/
theorem readLE_writeLE_inside (m : Memory) (a v : Nat) {k n w : Nat} (h : k + n ≤ w) :
    Memory.readLE (Memory.writeLE m a w v) (a + k) n = v / 256 ^ k % 256 ^ n := by
  induction n generalizing k with
  | zero => simp [Memory.readLE, Nat.mod_one]
  | succ n ih =>
    have hfirst : (Memory.byte (Memory.writeLE m a w v) (a + k)).toNat = v / 256 ^ k % 256 := by
      rw [Memory.byte_writeLE_inside _ _ _ _ (by omega), BitVec.toNat_ofNat]
    have hrest : Memory.readLE (Memory.writeLE m a w v) (a + k + 1) n = v / 256 ^ k / 256 % 256 ^ n := by
      rw [Nat.add_assoc, ih (by omega), Nat.pow_succ, Nat.div_div_eq_div_mul]
    rw [Memory.readLE, hfirst, hrest, Nat.pow_succ', Nat.mod_mul]

/-- Digits `k` to `k + n` are among the lowest `w`, so dropping the digits above those does not change them. -/
theorem mod_pow_div_pow_mod_pow (x b : Nat) {k n w : Nat} (h : k + n ≤ w) :
    x % b ^ w / b ^ k % b ^ n = x / b ^ k % b ^ n := by
  have hsplit : b ^ w = b ^ k * b ^ (w - k) := by rw [← Nat.pow_add, Nat.add_sub_cancel' (by omega)]
  rw [hsplit, Nat.mod_mul_right_div_self, Nat.mod_mod_of_dvd _ (Nat.pow_dvd_pow b (by omega))]

/-! ## Accesses inside VRAM (44_guest_interface.md R272, R273) -/

theorem vramWriteValue_eq (d : Data) (sz : AccessSize) : vramWriteValue d sz = d.toNat % 256 ^ sizeBytes sz := by
  rw [vramWriteValue, truncNat, Nat.pow_mul]

theorem exec_vwr_inside {s : State} {sz : AccessSize} {addr : Word} (d : Data)
    (h : addr.toNat + sizeBytes sz ≤ s.params.vramSize) :
    exec (.vwr sz addr d) s =
      .next (State.respond
        { s with
          vram := Memory.writeLE s.vram addr.toNat (sizeBytes sz) (vramWriteValue d sz)
          dirty := true } .done) :=
  congrArg completeWrite (if_pos (decide_eq_true h))

/-- The bytes read fit in DATA, so none is lost. -/
theorem readLE_sizeBytes_lt (m : Memory) (a : Nat) (sz : AccessSize) : Memory.readLE m a (sizeBytes sz) < 2 ^ 64 := by
  have hfits : 256 ^ sizeBytes sz ≤ 2 ^ 64 := by cases sz <;> decide
  exact (Memory.readLE_lt m a _).trans_le hfits

theorem exec_vrd_inside {s : State} {sz : AccessSize} {addr : Word}
    (h : addr.toNat + sizeBytes sz ≤ s.params.vramSize) :
    ∃ v : Data, exec (.vrd sz addr) s = .next (s.respond (.data v)) ∧
      v.toNat = Memory.readLE s.vram addr.toNat (sizeBytes sz) := by
  refine ⟨BitVec.ofNat 64 (Memory.readLE s.vram addr.toNat (sizeBytes sz)), ?_, ?_⟩
  · exact congrArg (fun v => Host.Outcome.next (s.respond (.data (BitVec.ofNat 64 v)))) (if_pos (decide_eq_true h))
  · rw [BitVec.toNat_ofNat, Nat.mod_eq_of_lt (readLE_sizeBytes_lt _ _ _)]

/-- Settles O36: the read returns the digits of the value stored, which are digits of DATA below the write's size. -/
theorem narrowerReadsSeeTheBytesWritten : Obligations.NarrowerReadsSeeTheBytesWritten := by
  intro szW szR addr addr' d s t k hwrite hin haddr hexec
  have hvram : t.vram = Memory.writeLE s.vram addr.toNat (sizeBytes szW) (vramWriteValue d szW) := by
    obtain rfl := Host.Outcome.next.inj (hexec.symm.trans (exec_vwr_inside d hwrite))
    rfl
  have hread : addr'.toNat + sizeBytes szR ≤ t.params.vramSize := by
    rw [exec_params hexec]
    omega
  obtain ⟨v, hv, hval⟩ := exec_vrd_inside hread
  refine ⟨v, hv, ?_⟩
  calc v.toNat
      = Memory.readLE (Memory.writeLE s.vram addr.toNat (sizeBytes szW) (vramWriteValue d szW)) (addr.toNat + k)
          (sizeBytes szR) := by rw [hval, hvram, haddr]
    _ = d.toNat % 256 ^ sizeBytes szW / 256 ^ k % 256 ^ sizeBytes szR := by
          rw [readLE_writeLE_inside _ _ _ hin, vramWriteValue_eq]
    _ = d.toNat / 256 ^ k % 256 ^ sizeBytes szR := mod_pow_div_pow_mod_pow _ _ hin

/-! ## What reads change (20_memory.md R67) -/

/-- Settles O53: a read of a write-only or unmapped register logs, a read of STATUS takes a draw, and every other read
changes nothing. -/
theorem readsChangeOnlyTheLog : Obligations.ReadsChangeOnlyTheLog := by
  intro i s hread
  cases i with
  | rdCursorUpload | rdPageFlip | rdUnmapped => exact ⟨0, (s.logDiag _ _).respond _, rfl, rfl⟩
  | rdStatus => exact ⟨_, State.respond { s with draws := s.draws + 1 } _, rfl, rfl⟩
  | rdDeviceId | rdControl | rdFbAddr | rdFbWidth | rdFbHeight | rdFbBpp | rdFbEnable | rdFbPitch | rdCursorX
  | rdCursorY | rdCursorEnable | rdCursorHotspotX | rdCursorHotspotY | rdFbCount | rdFbCurrent | rdFbNext
  | rdFlipPending | rdVblankCount | vrd => exact ⟨_, s.respond _, rfl, rfl⟩
  | _ => exact absurd hread Bool.false_ne_true

end Sys2Proof.Proofs
end

section
/-! SUPPORT. The encoding: the fields of a header, the decoder and the encoder port by port, and the statements of
30_encoding.md: decode and encode undo each other (R81 to R87), and which headers are invalid (R88). -/

namespace Sys2Proof.Proofs

open Sys2Proof.Machine

/-! ## Header fields (30_encoding.md R81) -/

/-- The reserved bits of the header are 0 and its other fields are these. -/
structure HeaderFields (h : Word) (port w sz off : Nat) : Prop where
  rsv : headerRsv h = 0
  port : headerPort h = port
  w : headerW h = w
  sz : headerSz h = sz
  off : headerOff h = off

theorem mkHeader_fields {port w sz off : Nat} (hport : port < 4) (hw : w < 2) (hsz : sz < 4) (hoff : off < 4096) :
    HeaderFields (mkHeader port w sz off) port w sz off := by
  have hnat : (mkHeader port w sz off).toNat = port * 2 ^ 30 + w * 2 ^ 29 + sz * 2 ^ 27 + off := by
    rw [mkHeader, BitVec.toNat_ofNat, Nat.mod_eq_of_lt (by omega)]
  constructor
  · rw [headerRsv, hnat]; omega
  · rw [headerPort, hnat]; omega
  · rw [headerW, hnat]; omega
  · rw [headerSz, hnat]; omega
  · rw [headerOff, hnat]; omega

/-- The fields are all there is of a header whose reserved bits are 0. -/
theorem eq_mkHeader {h : Word} {port : Nat} (hrsv : headerRsv h = 0) (hport : headerPort h = port) :
    h = mkHeader port (headerW h) (headerSz h) (headerOff h) := by
  subst hport
  have hlt := h.isLt
  rw [headerRsv] at hrsv
  apply BitVec.eq_of_toNat_eq
  rw [mkHeader, BitVec.toNat_ofNat, headerPort, headerW, headerSz, headerOff]
  omega

theorem headerSz_lt (h : Word) : headerSz h < 4 := Nat.mod_lt _ (by decide)

theorem szOfSize_sizeOfSz {n : Nat} (hn : n < 4) : szOfSize (sizeOfSz n) = n := by
  interval_cases n <;> rfl

theorem szOfSize_headerSz (h : Word) : szOfSize (sizeOfSz (headerSz h)) = headerSz h :=
  szOfSize_sizeOfSz (headerSz_lt h)

theorem toNat_headerOff (h : Word) : (BitVec.ofNat 12 (headerOff h)).toNat = headerOff h := by
  rw [BitVec.toNat_ofNat, headerOff, Nat.mod_mod]

/-! ## The DATA operand (30_encoding.md R84) -/

theorem takeData_dataWords (d : Data) (ws : List Word) : takeData (dataWords d ++ ws) = some (d, ws) := by
  have hjoin : d.extractLsb' 32 32 ++ d.extractLsb' 0 32 = d :=
    (BitVec.extractLsb'_append_extractLsb'_eq_extractLsb' (start₁ := 0) (start₂ := 32) rfl).trans
      BitVec.extractLsb'_eq_self
  exact congrArg (fun e => some (e, ws)) hjoin

theorem dataWords_of_takeData {ws rest : List Word} {d : Data} (h : takeData ws = some (d, rest)) :
    dataWords d ++ rest = ws := by
  match ws, h with
  | lo :: hi :: _, rfl =>
    have hlo : (hi ++ lo : Data).extractLsb' 0 32 = lo := BitVec.extractLsb'_append_eq_right
    have hhi : (hi ++ lo : Data).extractLsb' 32 32 = hi := BitVec.extractLsb'_append_eq_left
    rw [dataWords, hlo, hhi]
    rfl

/-! ## Register rows (30_encoding.md R87) -/

theorem regRead_unmapped {off : Off} (h : off.toNat ∉ mappedOffsets) (sz : AccessSize) :
    regRead off sz = .rdUnmapped sz off := by
  unfold regRead
  split
  case h_22 => rfl
  all_goals exact absurd (by simp only [*]; decide) h

theorem regWrite_unmapped {off : Off} (h : off.toNat ∉ mappedOffsets) (sz : AccessSize) (d : Data) :
    regWrite off sz d = .wrUnmapped sz off d := by
  unfold regWrite
  split
  case h_22 => rfl
  all_goals exact absurd (by simp only [*]; decide) h

/-- The row an offset selects is well-formed and spelled with that offset. -/
theorem regRead_spelled (off : Off) (sz : AccessSize) :
    (regRead off sz).wf = true ∧ encode (regRead off sz) = encodeRead sz off.toNat := by
  unfold regRead
  split
  case h_22 => exact ⟨by simp_all [Instr.wf, mappedOffsets], rfl⟩
  all_goals exact ⟨rfl, congrArg (encodeRead sz) (Eq.symm ‹_›)⟩

theorem regWrite_spelled (off : Off) (sz : AccessSize) (d : Data) :
    (regWrite off sz d).wf = true ∧ encode (regWrite off sz d) = encodeWrite sz off.toNat d := by
  unfold regWrite
  split
  case h_22 => exact ⟨by simp_all [Instr.wf, mappedOffsets], rfl⟩
  all_goals exact ⟨rfl, congrArg (encodeWrite sz · d) (Eq.symm ‹_›)⟩

/-! ## The ports (30_encoding.md R81) -/

theorem headerPort_cases (h : Word) :
    headerPort h = 0 ∨ headerPort h = 1 ∨ headerPort h = 2 ∨ headerPort h = 3 := by
  have := h.isLt
  rw [headerPort]
  omega

theorem headerW_eq (h : Word) : headerW h = 0 ∨ headerW h = 1 := Nat.mod_two_eq_zero_or_one _

theorem decode_reserved {h : Word} (hrsv : headerRsv h ≠ 0) (ws : List Word) :
    decode (h :: ws) = .bad (.invalidHeader h) := if_pos hrsv

section

variable {h : Word} (hrsv : headerRsv h = 0) (ws : List Word)

include hrsv

theorem decode_register (hport : headerPort h = 0) : decode (h :: ws) = decodeRegister h ws := by
  simp [decode, hrsv, hport]

theorem decode_vram (hport : headerPort h = 1) : decode (h :: ws) = decodeVram h ws := by
  simp [decode, hrsv, hport]

theorem decode_command (hport : headerPort h = 2) : decode (h :: ws) = decodeCommand h ws := by
  simp [decode, hrsv, hport]

theorem decode_render (hport : headerPort h = 3) : decode (h :: ws) = decodeRender h ws := by
  simp [decode, hrsv, hport]

end

/-! ## Decode of encode -/

theorem decode_encodeRead {off : Nat} (hoff : off < 4096) (sz : AccessSize) (ws : List Word) :
    decode (encodeRead sz off ++ ws) = .ok (regRead (BitVec.ofNat 12 off) sz) ws := by
  simpa [encodeRead, mkHeader] using decode_regRead (sizeBytes_eq_pow sz) hoff ws

theorem decode_encodeWrite {off : Nat} (hoff : off < 4096) (sz : AccessSize) (d : Data) (ws : List Word) :
    decode (encodeWrite sz off d ++ ws) = .ok (regWrite (BitVec.ofNat 12 off) sz d) ws := by
  have hf := mkHeader_fields (port := 0) (w := 1) (by decide) (by decide) (szOfSize_lt sz) hoff
  refine (decode_register hf.rsv _ hf.port).trans ?_
  simp [decodeRegister, hf.w, hf.sz, hf.off, sizeOfSz_szOfSize, takeData_dataWords]

theorem decode_encode_vrd (sz : AccessSize) (addr : Word) (ws : List Word) :
    decode (encode (.vrd sz addr) ++ ws) = .ok (.vrd sz addr) ws := by
  have hf := mkHeader_fields (port := 1) (w := 0) (off := 0) (by decide) (by decide) (szOfSize_lt sz) (by decide)
  refine (decode_vram hf.rsv _ hf.port).trans ?_
  simp [decodeVram, hf.w, hf.sz, hf.off, sizeOfSz_szOfSize]

theorem decode_encode_vwr (sz : AccessSize) (addr : Word) (d : Data) (ws : List Word) :
    decode (encode (.vwr sz addr d) ++ ws) = .ok (.vwr sz addr d) ws := by
  have hf := mkHeader_fields (port := 1) (w := 1) (off := 0) (by decide) (by decide) (szOfSize_lt sz) (by decide)
  refine (decode_vram hf.rsv _ hf.port).trans ?_
  simp [decodeVram, hf.w, hf.sz, hf.off, sizeOfSz_szOfSize, takeData_dataWords]

/-- UPLOAD_BULK's length word holds the length of a list that is not too long for it (log entry 1). -/
theorem decode_encode_uploadBulk (count : Word) {pixels : List Word} (hlen : pixels.length < 2 ^ 32) (ws : List Word) :
    decode (encode (.uploadBulk count pixels) ++ ws) = .ok (.uploadBulk count pixels) ws := by
  have hword : pixels.length % 4294967296 = pixels.length := Nat.mod_eq_of_lt hlen
  have hf := mkHeader_fields (port := 2) (w := 0) (sz := 0) (off := 12) (by decide) (by decide) (by decide) (by decide)
  refine (decode_command hf.rsv _ hf.port).trans ?_
  simp [decodeCommand, hf.w, hf.sz, hf.off, hword]

/-- Settles O3: by the operation's port. A register's offset selects its row, and an unmapped offset an unmapped access;
a command or a render other than UPLOAD_BULK decodes by evaluation, since its header is a number. -/
theorem decodeOfEncodeIsTheOperation : Obligations.DecodeOfEncodeIsTheOperation := by
  intro i hwf ws
  cases i with
  | rdDeviceId | rdStatus | rdControl | rdFbAddr | rdFbWidth | rdFbHeight | rdFbBpp | rdFbEnable | rdFbPitch
  | rdCursorX | rdCursorY | rdCursorEnable | rdCursorHotspotX | rdCursorHotspotY | rdCursorUpload | rdFbCount
  | rdFbCurrent | rdFbNext | rdPageFlip | rdFlipPending | rdVblankCount => exact decode_encodeRead (by decide) _ ws
  | wrDeviceId | wrStatus | wrControl | wrFbAddr | wrFbWidth | wrFbHeight | wrFbBpp | wrFbEnable | wrFbPitch
  | wrCursorX | wrCursorY | wrCursorEnable | wrCursorHotspotX | wrCursorHotspotY | wrCursorUpload | wrFbCount
  | wrFbCurrent | wrFbNext | wrPageFlip | wrFlipPending | wrVblankCount => exact decode_encodeWrite (by decide) _ _ ws
  | rdUnmapped sz off =>
    rw [encode, decode_encodeRead off.isLt, BitVec.ofNat_toNat, BitVec.setWidth_eq,
      regRead_unmapped (by simpa [Instr.wf] using hwf)]
  | wrUnmapped sz off d =>
    rw [encode, decode_encodeWrite off.isLt, BitVec.ofNat_toNat, BitVec.setWidth_eq,
      regWrite_unmapped (by simpa [Instr.wf] using hwf)]
  | vrd sz addr => exact decode_encode_vrd sz addr ws
  | vwr sz addr d => exact decode_encode_vwr sz addr d ws
  | uploadBulk count pixels => exact decode_encode_uploadBulk count (of_decide_eq_true hwf) ws
  | setupSingle | setupMulti | requestFlip | waitForFlip | describe | getVramSize | enableDisplay | setPosition
  | setHotspot | setEnabled | uploadPixel | render => rfl

/-! ## Encode of decode, port by port -/

section

variable {h : Word} {ws rest : List Word} {i : Instr} (hrsv : headerRsv h = 0)

include hrsv

theorem decodeRegister_spelled (hport : headerPort h = 0) (hd : decodeRegister h ws = .ok i rest) :
    i.wf = true ∧ encode i ++ rest = h :: ws := by
  have hh := eq_mkHeader hrsv hport
  unfold decodeRegister at hd
  split at hd
  · next hw =>
    obtain ⟨rfl, rfl⟩ := Decoded.ok.inj hd
    obtain ⟨hwf, henc⟩ := regRead_spelled (BitVec.ofNat 12 (headerOff h)) (sizeOfSz (headerSz h))
    rw [hw] at hh
    exact ⟨hwf, by rw [henc, encodeRead, szOfSize_headerSz, toNat_headerOff, ← hh]; rfl⟩
  · next hw =>
    split at hd
    · next d ws' hdata =>
      obtain ⟨rfl, rfl⟩ := Decoded.ok.inj hd
      obtain ⟨hwf, henc⟩ := regWrite_spelled (BitVec.ofNat 12 (headerOff h)) (sizeOfSz (headerSz h)) d
      rw [(headerW_eq h).resolve_left hw] at hh
      rw [henc, encodeWrite, szOfSize_headerSz, toNat_headerOff, ← hh, List.cons_append, dataWords_of_takeData hdata]
      exact ⟨hwf, rfl⟩
    · cases hd

theorem decodeVram_spelled (hport : headerPort h = 1) (hd : decodeVram h ws = .ok i rest) :
    i.wf = true ∧ encode i ++ rest = h :: ws := by
  have hh := eq_mkHeader hrsv hport
  unfold decodeVram at hd
  split at hd
  · cases hd
  next hoff =>
  rw [not_not.mp hoff] at hh
  split at hd
  · cases hd
  split at hd
  · next hw =>
    obtain ⟨rfl, rfl⟩ := Decoded.ok.inj hd
    rw [hw] at hh
    exact ⟨rfl, by rw [encode, szOfSize_headerSz, ← hh]; rfl⟩
  · next hw =>
    split at hd
    · next d ws' hdata =>
      obtain ⟨rfl, rfl⟩ := Decoded.ok.inj hd
      rw [(headerW_eq h).resolve_left hw] at hh
      refine ⟨rfl, ?_⟩
      rw [encode, szOfSize_headerSz, ← hh, List.cons_append, List.cons_append, dataWords_of_takeData hdata]
    · cases hd

theorem decodeCommand_spelled (hport : headerPort h = 2) (hd : decodeCommand h ws = .ok i rest) :
    i.wf = true ∧ encode i ++ rest = h :: ws := by
  have hh := eq_mkHeader hrsv hport
  unfold decodeCommand at hd
  split at hd
  · cases hd
  next hzero =>
  obtain ⟨hw, hsz⟩ := not_or.mp hzero
  rw [not_not.mp hw, not_not.mp hsz] at hh
  split at hd
  case h_12 len _ hcmd =>
    split at hd
    · next hlen =>
      obtain ⟨rfl, rfl⟩ := Decoded.ok.inj hd
      rw [hcmd] at hh
      have hcount := List.length_take_of_le hlen
      refine ⟨decide_eq_true (hcount.trans_lt len.isLt), ?_⟩
      rw [encode, encodeCommand, hcount, BitVec.ofNat_toNat, BitVec.setWidth_eq, ← hh, List.cons_append,
        List.cons_append, List.cons_append, List.take_append_drop]
    · cases hd
  case h_13 => split at hd <;> cases hd
  all_goals
    obtain ⟨rfl, rfl⟩ := Decoded.ok.inj hd
    rw [‹headerOff h = _›] at hh
    exact ⟨rfl, congrArg (List.cons · _) hh.symm⟩

theorem decodeRender_spelled (hport : headerPort h = 3) (hd : decodeRender h ws = .ok i rest) :
    i.wf = true ∧ encode i ++ rest = h :: ws := by
  have hh := eq_mkHeader hrsv hport
  unfold decodeRender at hd
  split at hd
  · cases hd
  next hzero =>
  obtain ⟨rfl, rfl⟩ := Decoded.ok.inj hd
  obtain ⟨hw, hsz, hoff⟩ : headerW h = 0 ∧ headerSz h = 0 ∧ headerOff h = 0 := by simpa using hzero
  rw [hw, hsz, hoff] at hh
  exact ⟨rfl, congrArg (List.cons · _) hh.symm⟩

end

/-- Settles O4: by the port of the header read, since a header with its reserved bits 0 is made of its fields. -/
theorem encodeOfDecodeIsTheWords : Obligations.EncodeOfDecodeIsTheWords := by
  intro ws i rest hd
  cases ws with
  | nil => cases hd
  | cons h ws =>
    by_cases hrsv : headerRsv h = 0
    · rcases headerPort_cases h with hport | hport | hport | hport
      · exact decodeRegister_spelled hrsv hport (decode_register hrsv ws hport ▸ hd)
      · exact decodeVram_spelled hrsv hport (decode_vram hrsv ws hport ▸ hd)
      · exact decodeCommand_spelled hrsv hport (decode_command hrsv ws hport ▸ hd)
      · exact decodeRender_spelled hrsv hport (decode_render hrsv ws hport ▸ hd)
    · cases (decode_reserved hrsv ws).symm.trans hd

/-! ## Invalid headers (30_encoding.md R88) -/

section

variable (h : Word) (ws : List Word)

theorem decodeRegister_valid : decodeRegister h ws ≠ .bad (.invalidHeader h) := by
  unfold decodeRegister
  split
  · nofun
  · split <;> nofun

theorem decodeVram_invalid : decodeVram h ws = .bad (.invalidHeader h) ↔ headerOff h ≠ 0 := by
  unfold decodeVram
  split
  · next hoff => exact iff_of_true rfl hoff
  · next hoff =>
    refine iff_of_false ?_ hoff
    split
    · nofun
    split
    · nofun
    split <;> nofun

theorem decodeCommand_invalid :
    decodeCommand h ws = .bad (.invalidHeader h) ↔
      (headerW h ≠ 0 ∨ headerSz h ≠ 0) ∨ headerOff h = 0 ∨ 12 < headerOff h := by
  unfold decodeCommand
  split
  · next hset => exact iff_of_true rfl (.inl hset)
  next hzero =>
  rw [or_iff_right hzero]
  split
  case h_12 hcmd =>
    refine iff_of_false ?_ (by omega)
    split <;> nofun
  case h_13 =>
    split
    · exact iff_of_false nofun (by omega)
    · exact iff_of_true rfl (by omega)
  all_goals exact iff_of_false nofun (by omega)

theorem decodeRender_invalid :
    decodeRender h ws = .bad (.invalidHeader h) ↔ (headerW h ≠ 0 ∨ headerSz h ≠ 0) ∨ headerOff h ≠ 0 := by
  unfold decodeRender
  split
  · next hset => exact iff_of_true rfl (or_assoc.mpr hset)
  · next hzero => exact iff_of_false nofun (hzero ∘ or_assoc.mp)

/-- R88 in the fields of the header: the commands are those with OFF from 1 to 12 (R86). -/
theorem decode_invalid :
    decode (h :: ws) = .bad (.invalidHeader h) ↔
      headerRsv h ≠ 0 ∨ (headerPort h = 1 ∧ headerOff h ≠ 0) ∨
      ((headerPort h = 2 ∨ headerPort h = 3) ∧ (headerW h ≠ 0 ∨ headerSz h ≠ 0)) ∨
      (headerPort h = 2 ∧ (headerOff h = 0 ∨ 12 < headerOff h)) ∨ (headerPort h = 3 ∧ headerOff h ≠ 0) := by
  by_cases hrsv : headerRsv h = 0
  · rcases headerPort_cases h with hport | hport | hport | hport
    · simp [decode_register hrsv ws hport, decodeRegister_valid, hrsv, hport]
    · simp [decode_vram hrsv ws hport, decodeVram_invalid, hrsv, hport]
    · simp [decode_command hrsv ws hport, decodeCommand_invalid, hrsv, hport]
    · simp [decode_render hrsv ws hport, decodeRender_invalid, hrsv, hport]
  · exact iff_of_true (decode_reserved hrsv ws) (.inl hrsv)

end

/-! ## The bits of the fields (30_encoding.md R81) -/

section

variable (h : Word)

theorem toNat_extractLsb' (lo len : Nat) : (h.extractLsb' lo len).toNat = h.toNat / 2 ^ lo % 2 ^ len := by
  rw [BitVec.extractLsb'_toNat, Nat.shiftRight_eq_div_pow]

theorem extractLsb'_eq_zero_iff (lo len : Nat) : h.extractLsb' lo len = 0 ↔ h.toNat / 2 ^ lo % 2 ^ len = 0 := by
  rw [← toNat_extractLsb', ← BitVec.toNat_inj]
  simp

theorem rsvBits_eq_zero_iff : h.extractLsb' 12 15 = 0 ↔ headerRsv h = 0 := extractLsb'_eq_zero_iff h 12 15

theorem wBits_eq_zero_iff : h.extractLsb' 29 1 = 0 ↔ headerW h = 0 := extractLsb'_eq_zero_iff h 29 1

theorem szBits_eq_zero_iff : h.extractLsb' 27 2 = 0 ↔ headerSz h = 0 := extractLsb'_eq_zero_iff h 27 2

theorem offBits_eq_zero_iff : h.extractLsb' 0 12 = 0 ↔ headerOff h = 0 := by
  rw [extractLsb'_eq_zero_iff, Nat.pow_zero, Nat.div_one, headerOff]

theorem portBits_eq_iff (v : BitVec 2) : h.extractLsb' 30 2 = v ↔ headerPort h = v.toNat := by
  have hport := headerPort_cases h
  rw [← BitVec.toNat_inj, toNat_extractLsb', ← headerPort, Nat.mod_eq_of_lt (by omega)]

/-- Bits 11:8 are 0 and bits 7:0 the number of a command exactly when OFF is that number (R86, R88). -/
theorem noCommandBits_iff :
    (h.extractLsb' 8 4 ≠ 0 ∨ (h.extractLsb' 0 8).toNat = 0 ∨ 12 < (h.extractLsb' 0 8).toNat) ↔
      headerOff h = 0 ∨ 12 < headerOff h := by
  rw [ne_eq, extractLsb'_eq_zero_iff, toNat_extractLsb', headerOff]
  omega

end

theorem operationStep_invalidHeader {s : State} {h : Word} (hd : decode s.input = .bad (.invalidHeader h)) :
    operationStep s = .refused (.invalidHeader h) := by
  simp [operationStep, hd]

/-- Settles O5: each condition on the header's bits is one on its fields, which decide whether it is invalid. -/
theorem invalidHeadersAreRefused : Obligations.InvalidHeadersAreRefused := by
  intro h ws
  refine ⟨?_, fun s hren hin hd => (step_idle hren).trans (operationStep_invalidHeader (hin ▸ hd))⟩
  simp only [noCommandBits_iff, rsvBits_eq_zero_iff, wBits_eq_zero_iff, szBits_eq_zero_iff, offBits_eq_zero_iff,
    portBits_eq_iff, ne_eq]
  exact (decode_invalid h ws).symm

/-- Settles O6: each stream is, by evaluation, what the encoder writes for the operation, so it decodes to it. -/
theorem specWordsDecode : Obligations.SpecWordsDecode :=
  ⟨decodeOfEncodeIsTheOperation (.wrFbWidth .s4 0x400) rfl [],
    decodeOfEncodeIsTheOperation (.rdFbCurrent .s4) rfl [],
    decodeOfEncodeIsTheOperation (.vwr .s4 0x001D4C00 0xFF00FF00) rfl [],
    decodeOfEncodeIsTheOperation (.setupSingle 4 2 32) rfl [],
    decodeOfEncodeIsTheOperation (.setPosition 1 0) rfl [],
    decodeOfEncodeIsTheOperation .render rfl []⟩

end Sys2Proof.Proofs
end

section
/-! SUPPORT. The RegisterBank (40_register_bank.md): a register row from its offset and its meaning, what an unmapped
access logs, and the rows of the display registers. -/

namespace Sys2Proof.Proofs

open Sys2Proof.Machine Sys2Proof.Claims

/-! ## Register rows (40_register_bank.md R100 to R102) -/

/-- A read whose offset selects `i`, and which completes with the register's value. -/
theorem readRow_of_exec {off : Nat} {i : AccessSize → Instr} {x : State → Word} (hoff : off < 4096)
    (hi : ∀ sz, regRead (BitVec.ofNat 12 off) sz = i sz) (hexec : ∀ sz s, exec (i sz) s = completeRead (x s) sz s) :
    readRow off i x := fun sz _ s ws hsz =>
  ⟨hi sz ▸ decode_regRead hsz hoff ws, _, shapeRead_toNat (x s) sz, hexec sz s⟩

/-- The header `0x20000000 | (SZ << 27) | off` spells the register write at `off`: no other operation, since without
two words of DATA the stream spells none. -/
theorem writeHeader_of_regWrite {sz : AccessSize} {n off : Nat} {i : Data → Instr} (hsz : sizeBytes sz = 2 ^ n)
    (hoff : off < 4096) (hi : ∀ d, regWrite (BitVec.ofNat 12 off) sz d = i d) :
    writeHeader (BitVec.ofNat 32 (0x20000000 + n * 2 ^ 27 + off)) i := by
  obtain rfl := eq_szOfSize hsz
  have hheader : BitVec.ofNat 32 (0x20000000 + szOfSize sz * 2 ^ 27 + off) = mkHeader 0 1 (szOfSize sz) off := by
    simp [mkHeader]
  have hf := mkHeader_fields (port := 0) (w := 1) (by decide) (by decide) (szOfSize_lt sz) hoff
  rw [hheader]
  refine ⟨fun d => ⟨dataWords d, fun ws => hi d ▸ decode_encodeWrite hoff sz d ws⟩, fun ws j rest hdec => ?_⟩
  rw [decode_register hf.rsv ws hf.port] at hdec
  cases hdata : takeData ws with
  | none => simp [decodeRegister, hf.w, hdata] at hdec
  | some r =>
    simp only [decodeRegister, hf.w, hf.sz, hf.off, sizeOfSz_szOfSize, hdata, hi] at hdec
    obtain ⟨hj, -⟩ := Decoded.ok.inj hdec
    exact ⟨r.1, hj.symm⟩

/-- A write whose offset selects `i`, and which completes with the effect of the shaped value. -/
theorem writeRow_of_exec {off : Nat} {i : AccessSize → Data → Instr} {eff : Word → State → State} (hoff : off < 4096)
    (hi : ∀ sz d, regWrite (BitVec.ofNat 12 off) sz d = i sz d)
    (hexec : ∀ sz d s, exec (i sz d) s = completeWrite (eff (shapeWrite d sz) s)) : writeRow off i eff := by
  refine fun sz n hsz => ⟨writeHeader_of_regWrite hsz hoff (hi sz), fun d v s hv => ?_⟩
  obtain rfl : v = shapeWrite d sz := BitVec.eq_of_toNat_eq (hv.trans (shapeWrite_toNat d sz).symm)
  exact hexec sz d s

/-! ## Reads -/

/-- Settles O10: each offset selects its row, whose meaning completes with the register. -/
theorem displayRegisterReads : Obligations.DisplayRegisterReads := by
  refine ⟨?_, ?_, ?_, ?_, ?_, ?_, ?_, ?_⟩
  all_goals exact readRow_of_exec (by decide) (fun _ => rfl) fun _ _ => rfl

/-- Settles O14: both offsets select their rows, whose meaning at every size is 0 and the diagnostic. -/
theorem writeOnlyRegisterReads : Obligations.WriteOnlyRegisterReads := fun _ _ _ ws hsz =>
  ⟨⟨decode_regRead hsz (by decide) ws, rfl⟩, ⟨decode_regRead hsz (by decide) ws, rfl⟩⟩

/-! ## Unmapped offsets (40_register_bank.md R105 to R107) -/

theorem exec_rdUnmapped (sz : AccessSize) (off : Off) (s : State) :
    exec (.rdUnmapped sz off) s =
      .next ((logged (if off.toNat + sizeBytes sz > 4096 then .outOfRange else .unmappedRead) off s).respond
        (.data 0)) := by
  simp [exec, execRdUnmapped, pastRegisterEnd, Config.regSpace, State.logDiag, logged]

theorem exec_wrUnmapped (sz : AccessSize) (off : Off) (d : Data) (s : State) :
    exec (.wrUnmapped sz off d) s =
      .next ((logged (if off.toNat + sizeBytes sz > 4096 then .outOfRange else .unmappedWrite) off s).respond
        .done) := by
  simp [exec, execWrUnmapped, completeWrite, pastRegisterEnd, Config.regSpace, State.logDiag, logged]

/-- Settles O15: the offset selects the unmapped rows, and the end of the access selects the diagnostic; no access
has more than 8 bytes. -/
theorem unmappedAccesses : Obligations.UnmappedAccesses := by
  intro sz n off d s ws hsz hoff
  have hself : BitVec.ofNat 12 off.toNat = off := by simp
  refine ⟨⟨?_, ?_⟩, fun hin => ⟨?_, ?_⟩, fun hpast => ⟨?_, ?_, ?_⟩⟩
  · rw [decode_regRead hsz off.isLt, hself, regRead_unmapped hoff]
  · exact writeHeader_of_regWrite hsz off.isLt fun d => by rw [hself, regWrite_unmapped hoff]
  · rw [exec_rdUnmapped, if_neg hin.not_gt]
  · rw [exec_wrUnmapped, if_neg hin.not_gt]
  · rcases sizeBytes_cases sz with e | e | e | e <;> omega
  · rw [exec_rdUnmapped, if_pos hpast]
  · rw [exec_wrUnmapped, if_pos hpast]

/-! ## Writes -/

/-- Settles O16: each offset selects its row, whose meaning is the diagnostic alone. -/
theorem readOnlyRegisterWrites : Obligations.ReadOnlyRegisterWrites := by
  refine ⟨?_, ?_, ?_, ?_, ?_⟩
  all_goals exact writeRow_of_exec (by decide) (fun _ _ => rfl) fun _ _ _ => rfl

/-- Settles O17: bit 0 of the value selects the reset or the plain store. -/
theorem controlWrite : Obligations.ControlWrite := by
  refine writeRow_of_exec (by decide) (fun _ _ => rfl) fun sz d s => congrArg completeWrite ?_
  split
  · next hbit => exact writeControl_reset hbit
  · next hbit => exact writeControl_store (Nat.mod_two_ne_one.mp hbit)

/-- Settles O19: both writes store, then recompute the pitch from the register written and the other one. -/
theorem pitchRecomputingWrites : Obligations.PitchRecomputingWrites :=
  ⟨writeRow_of_exec (by decide) (fun _ _ => rfl) fun _ _ _ => rfl,
    writeRow_of_exec (by decide) (fun _ _ => rfl) fun _ _ _ => rfl⟩

theorem writeFbEnable_eq (s : State) (v : Word) : s.writeFbEnable v = fbEnableWritten v s := by
  unfold fbEnableWritten
  split
  · next h => exact writeFbEnable_transition h.1 h.2
  · next h => exact writeFbEnable_store ((not_and_or.mp h).imp_right not_not.mp)

theorem boolWord_eq (b : Word) : boolWord b = if b = 0 then 0 else 1 := ite_not ..

/-- Settles O21: both operations have the one effect of FB_ENABLE, the command with its argument as 1 or 0. -/
theorem outputEnableWrites : Obligations.OutputEnableWrites := by
  refine ⟨writeRow_of_exec (by decide) (fun _ _ => rfl) fun sz d s => ?_, fun b s => ⟨?_, ?_⟩⟩
  · exact congrArg completeWrite (writeFbEnable_eq s _)
  · exact decodeOfEncodeIsTheOperation (.enableDisplay b) rfl
  · rw [← boolWord_eq, ← writeFbEnable_eq]
    rfl

end Sys2Proof.Proofs
end

section
/-! SUPPORT. The invariant of a legal state (41_framebuffer_manager.md R160, 10_state.md R42, R43): it holds at attach,
every operation and every step keeps it, and what a legal state can return (60_exceptions.md R302). -/

namespace Sys2Proof.Proofs

open Sys2Proof.Machine Sys2Proof.Claims Sys2Proof.Safety

/-! ## Attach -/

/-- VRAM_BASE is a page number times the page size, whichever the two are (log entry 12). -/
theorem paramsLegal_reset : ParamsLegal Params.reset :=
  ⟨by decide, by decide, Nat.succ_pos _, Nat.mul_mod_left _ _⟩

/-- Settles O2: the page alignment is that of any page; the other parts are numbers. -/
theorem resetMeetsInvariant : Obligations.ResetMeetsInvariant where
  params := paramsLegal_reset
  flip := ⟨by decide, by decide, by decide, by decide, by decide, rfl⟩
  control := rfl
  vram := ⟨reset_vram_wf, nofun⟩
  surface := trivial
  render := trivial

/-! ## Legal states with no render in progress -/

/-- A legal state with no render in progress, which every operation but a VRAM-port transaction starts in. -/
structure Idle (s : State) : Prop where
  params : ParamsLegal s.params
  flip : FlipLegal s
  control : ControlLegal s
  vram : VramLegal s
  surface : SurfaceLegal s.surface
  idle : s.render = none

theorem Idle.inv {s : State} (h : Idle s) : Inv s :=
  ⟨h.params, h.flip, h.control, h.vram, h.surface, by simp [RenderLegal, h.idle]⟩

theorem idle_of_inv {s : State} (h : Inv s) (hidle : s.render = none) : Idle s :=
  ⟨h.params, h.flip, h.control, h.vram, h.surface, hidle⟩

/-- The fields that `Idle` speaks of. -/
def legalPart (s : State) :=
  (s.params, s.control, (s.fbCount, s.fbSize, s.current, s.next, s.pending), s.vram, s.surface, s.render)

theorem Idle.congr {s t : State} (h : Idle s) (hpart : legalPart t = legalPart s) : Idle t := by
  obtain ⟨hparams, hflip, hcontrol, hvram, hsurface, hidle⟩ := h
  simp only [legalPart, Prod.mk.injEq] at hpart
  obtain ⟨eparams, econtrol, ⟨ecount, esize, ecurrent, enext, epending⟩, evram, esurface, erender⟩ := hpart
  refine ⟨eparams ▸ hparams, ?_, ?_, ?_, esurface ▸ hsurface, erender.trans hidle⟩
  · simpa only [FlipLegal, eparams, ecount, esize, ecurrent, enext, epending] using hflip
  · simpa only [ControlLegal, econtrol] using hcontrol
  · simpa only [VramLegal, eparams, evram] using hvram

theorem idle_ite {u v : State} {c : Prop} [Decidable c] (hu : c → Idle u) (hv : ¬ c → Idle v) :
    Idle (if c then u else v) := by
  split
  · exact hu ‹_›
  · exact hv ‹_›

/-! ## Effects that keep a state legal -/

/-- The reset leaves bit 0 clear by its mask, the plain store because the value has it clear
(40_register_bank.md R115). -/
theorem idle_writeControl {s : State} (h : Idle s) (v : Word) : Idle (s.writeControl v) := by
  refine idle_ite (fun _ => ?_) fun hbit => { h with control := Nat.mod_two_ne_one.mp hbit }
  have hmask : (v &&& ~~~3).toNat % 2 = 0 := by
    rw [BitVec.toNat_and, Nat.and_mod_two_pow (n := 1)]
    exact Nat.and_zero _
  exact { h with control := hmask }

theorem idle_writeFbEnable {s : State} (h : Idle s) (v : Word) : Idle (s.writeFbEnable v) :=
  idle_ite (fun _ => { h with surface := trivial }) fun _ => h.congr rfl

theorem legalPart_uploadPixels (s : State) (ps : List Word) : legalPart (s.uploadPixels ps) = legalPart s := by
  rw [uploadPixels_frame]
  rfl

theorem idle_uploadPixels {s : State} (h : Idle s) (ps : List Word) : Idle (s.uploadPixels ps) :=
  h.congr (legalPart_uploadPixels s ps)

theorem idle_writeFbNext {s : State} (h : Idle s) {v : Word} (hv : v.toNat < s.fbCount.toNat) :
    Idle { s with next := v } := by
  obtain ⟨hcount, hmax, hcurrent, -, hslices, hpending⟩ := h.flip
  exact { h with flip := ⟨hcount, hmax, hcurrent, hv, hslices, hpending⟩ }

/-! ## Commands that keep a state legal, and their codes -/

/-- The results of 60_exceptions.md R302 that a legal state can return. -/
def OrdinaryCode (code : ResultCode) : Prop := code = .ok ∨ code = .invalidArgument ∨ code = .outOfMemory

/-- A command's result and state in a legal state. -/
structure LegalResult (r : ResultCode × State) : Prop where
  code : OrdinaryCode r.1
  state : Idle r.2

theorem legalResult_ok {u : State} (h : Idle u) : LegalResult (.ok, u) := ⟨.inl rfl, h⟩

theorem legalResult_invalidArgument {u : State} (h : Idle u) : LegalResult (.invalidArgument, u) :=
  ⟨.inr (.inl rfl), h⟩

theorem legalResult_outOfMemory {u : State} (h : Idle u) : LegalResult (.outOfMemory, u) := ⟨.inr (.inr rfl), h⟩

theorem legalResult_setupSingle {s : State} (h : Idle s) (w ht bpp : Word) :
    LegalResult (s.setupSingle w ht bpp) := by
  rcases setupSingle_cases s w ht bpp with ⟨-, e⟩ | ⟨-, e⟩ <;> rw [e]
  · exact legalResult_outOfMemory h
  · exact legalResult_ok (h.congr rfl)

theorem legalResult_setupMulti {s : State} (h : Idle s) (count w ht bpp : Word) :
    LegalResult (s.setupMulti count w ht bpp) := by
  rcases setupMulti_cases s count w ht bpp with ⟨-, e⟩ | ⟨-, -, -, e⟩ | ⟨hcount, hmax, hfit, e⟩ <;> rw [e]
  · exact legalResult_invalidArgument h
  · exact legalResult_outOfMemory h
  · exact legalResult_ok { h with flip := ⟨hcount, hmax, hcount, hcount, hfit, rfl⟩ }

/-- No flip is pending, so a flip of an index of the set is never Busy (41_framebuffer_manager.md R158). -/
theorem legalResult_requestFlip {s : State} (h : Idle s) (index : Word) : LegalResult (s.requestFlip index) := by
  obtain ⟨hcount, hmax, -, -, hslices, hpending⟩ := h.flip
  rcases requestFlip_cases s index with ⟨-, e⟩ | ⟨-, hbusy, -⟩ | ⟨hindex, -, e⟩
  · exact e ▸ legalResult_invalidArgument h
  · cases hpending.symm.trans hbusy
  · exact e ▸ legalResult_ok { h with flip := ⟨hcount, hmax, hindex, hindex, hslices, rfl⟩ }

theorem legalResult_waitForFlip {s : State} (h : Idle s) : LegalResult (if s.pending then .timeout else .ok, s) := by
  obtain ⟨-, -, -, -, -, hpending⟩ := h.flip
  simpa [hpending] using legalResult_ok h

theorem legalResult_uploadBulk {s : State} (h : Idle s) (count : Word) (pixels : List Word) :
    LegalResult (s.uploadBulk count pixels) := by
  rcases uploadBulk_cases s count pixels with ⟨-, e⟩ | ⟨-, -, e⟩ <;> rw [e]
  · exact legalResult_invalidArgument h
  · exact legalResult_ok (idle_uploadPixels h _)

theorem idle_absorbFailure {r : ResultCode × State} (h : Idle r.2) (off : Off) : Idle (absorbFailure off r) := by
  by_cases hok : r.1 = .ok
  · obtain ⟨code, u⟩ := r
    subst hok
    exact h
  · rw [absorbFailure_error hok]
    exact h.congr rfl

/-! ## The VRAM port, also inside a render -/

theorem inv_respond {u : State} (h : Inv u) (r : Response) : Inv (u.respond r) :=
  ⟨h.params, h.flip, h.control, h.vram, h.surface, h.render⟩

/-- A write inside VRAM keeps the canonical form and lists no address outside (10_state.md R45). -/
theorem vramLegal_writeLE {s : State} (h : VramLegal s) {a n : Nat} (hend : a + n ≤ s.params.vramSize) (v : Nat) :
    VramLegal { s with vram := Memory.writeLE s.vram a n v } := by
  obtain ⟨hwf, hinside⟩ := h
  refine ⟨Memory.wf_writeLE _ _ _ _ hwf, fun c hc => ?_⟩
  rcases Memory.mem_writeLE hc with ⟨-, hlt⟩ | hmem
  · exact hlt.trans_le hend
  · exact hinside c hmem

theorem renderLegal_vramWritten {s : State} (h : RenderLegal s) (m : Memory) :
    RenderLegal { s with vram := m, dirty := true } := by
  cases hren : s.render with
  | none => trivial
  | some job =>
    simp only [RenderLegal, hren] at h ⊢
    obtain ⟨henabled, hbpp, -, hrest⟩ := h
    exact ⟨henabled, hbpp, trivial, hrest⟩

theorem inv_vwr {s : State} (h : Inv s) (sz : AccessSize) (addr : Word) (d : Data) :
    Inv (if s.inVram addr.toNat (sizeBytes sz) then
      State.markDirty
        { s with vram := Memory.writeLE s.vram addr.toNat (sizeBytes sz) (vramWriteValue d sz) }
    else s) := by
  split
  · next hin =>
    have hvram := vramLegal_writeLE h.vram (of_decide_eq_true hin) (vramWriteValue d sz)
    exact ⟨h.params, h.flip, h.control, hvram, h.surface, renderLegal_vramWritten h.render _⟩
  · exact h

/-! ## Renders (43_compositor.md R241 to R247) -/

theorem gateOpen_of_gate {s : State} (h : s.gate = none) : GateOpen s := by
  unfold State.gate at h
  split_ifs at h with hclean hdisabled hbpp hsize hregion
  obtain ⟨hwidth, hheight⟩ := not_or.mp hsize
  obtain ⟨hpitch, hend⟩ := not_or.mp hregion
  exact ⟨Bool.eq_true_of_not_eq_false hclean, hdisabled, not_not.mp hbpp, hwidth, hheight, not_lt.mp hpitch,
    not_lt.mp hend⟩

/-- The first step fixes the registers, and every byte of the region the gate checked is still to be read. -/
theorem renderLegal_begin {s : State} (h : GateOpen s) : RenderLegal { s with render := some s.beginRender } :=
  ⟨h.enabled, h.bpp, h.dirty, rfl, rfl, rfl, rfl, rfl, h.width, h.height, h.pitch, h.region,
    Array.size_replicate, List.nodup_range, fun _ hj => List.mem_range.mp hj⟩

/-- A presented surface has the snapshot's w * h pixels. -/
theorem idle_present {s : State} (h : Inv s) (job : RenderJob) (scratch : Array Byte) :
    Idle (s.present job scratch) := by
  have hsize : (overlayCursor job.w job.h job.cursor (scratchPixels job.w job.h scratch)).size =
      job.w.toNat * job.h.toNat := by simp
  exact ⟨h.params, h.flip, h.control, h.vram, hsize, rfl⟩

/-- A byte read takes one byte off those still to be read and leaves the snapshot. -/
theorem renderLegal_readByte {s : State} {job : RenderJob} (h : RenderLegal s) (hren : s.render = some job)
    (htodo : job.todo ≠ []) (pick : Nat) : RenderLegal { s with render := some (job.readByte s.vram pick) } := by
  obtain ⟨k, j, -, -, e⟩ := readByte_cases job s.vram pick htodo
  simp only [RenderLegal, hren] at h
  obtain ⟨henabled, hbpp, hdirty, hw, hh, hpitch, haddr, hcursor, hw0, hh0, hrow, hend, hsize, hnodup, hlt⟩ := h
  rw [e]
  exact ⟨henabled, hbpp, hdirty, hw, hh, hpitch, haddr, hcursor, hw0, hh0, hrow, hend,
    (fill_size job s.vram job.scratch j).trans hsize, hnodup.eraseIdx k,
    fun i hi => hlt i (List.mem_of_mem_eraseIdx hi)⟩

/-! ## Every operation -/

/-- A command's result in the response, if there is one, is one that a legal state can return. -/
def OrdinaryResponse (r : Response) : Prop := ∀ code record, r = .result code record → OrdinaryCode code

/-- One ordinary response from a legal state. -/
def AnswersLegally (o : StepOutcome) : Prop := ∃ u r, o = .next (u.respond r) ∧ Inv u ∧ OrdinaryResponse r

theorem answersLegally_write {u : State} (h : Inv u) : AnswersLegally (completeWrite u) :=
  ⟨u, .done, rfl, h, nofun⟩

theorem answersLegally_data {u : State} (h : Inv u) (v : Data) : AnswersLegally (.next (u.respond (.data v))) :=
  ⟨u, .data v, rfl, h, nofun⟩

theorem answersLegally_record {u : State} (h : Inv u) (record : ResultRecord) :
    AnswersLegally (.next (u.respond (.result .ok record))) :=
  ⟨u, _, rfl, h, fun _ _ hr => .inl (Response.result.inj hr).1.symm⟩

theorem answersLegally_command {r : ResultCode × State} (h : LegalResult r) : AnswersLegally (completeCommand r) :=
  ⟨r.2, _, rfl, h.state.inv, fun _ _ hr => (Response.result.inj hr).1 ▸ h.code⟩

/-- A VRAM-port transaction keeps a state legal also while a render is in progress. -/
theorem exec_vram_answersLegally {i : Instr} (hport : i.port = .vram) {s : State} (h : Inv s) :
    AnswersLegally (exec i s) := by
  cases i with
  | vrd => exact answersLegally_data h _
  | vwr => exact answersLegally_write (inv_vwr h _ _ _)
  | _ => cases hport

theorem Idle.answersWrite {s u : State} (h : Idle s) (hpart : legalPart u = legalPart s) :
    AnswersLegally (completeWrite u) :=
  answersLegally_write (h.congr hpart).inv

theorem Idle.answersData {s u : State} (h : Idle s) (hpart : legalPart u = legalPart s) (v : Data) :
    AnswersLegally (.next (u.respond (.data v))) :=
  answersLegally_data (h.congr hpart).inv v

/-- Every operation but RENDER answers legally outside a render. -/
theorem exec_answersLegally {i : Instr} (hi : i ≠ .render) {s : State} (h : Idle s) : AnswersLegally (exec i s) := by
  cases i with
  | render => exact absurd rfl hi
  | vrd | vwr => exact exec_vram_answersLegally rfl h.inv
  | wrControl => exact answersLegally_write (idle_writeControl h _).inv
  | wrFbEnable => exact answersLegally_write (idle_writeFbEnable h _).inv
  | wrCursorUpload => exact h.answersWrite (legalPart_uploadPixels s [_])
  | wrFbCount => exact answersLegally_write (idle_absorbFailure (legalResult_setupMulti h _ _ _ _).state _).inv
  | wrFbNext =>
    exact answersLegally_write (idle_ite (idle_writeFbNext h) fun _ => h.congr (t := s.logDiag _ _) rfl).inv
  | wrPageFlip =>
    exact answersLegally_write
      (idle_ite (fun _ => idle_absorbFailure (legalResult_requestFlip h _).state _) fun _ => h).inv
  | setupSingle => exact answersLegally_command (legalResult_setupSingle h _ _ _)
  | setupMulti => exact answersLegally_command (legalResult_setupMulti h _ _ _ _)
  | requestFlip => exact answersLegally_command (legalResult_requestFlip h _)
  | waitForFlip => exact answersLegally_command (legalResult_waitForFlip h)
  | describe | getVramSize => exact answersLegally_record h.inv _
  | enableDisplay => exact answersLegally_command (legalResult_ok (idle_writeFbEnable h _))
  | uploadPixel => exact answersLegally_command (legalResult_ok (idle_uploadPixels h [_]))
  | uploadBulk => exact answersLegally_command (legalResult_uploadBulk h _ _)
  | setPosition | setHotspot | setEnabled => exact answersLegally_command (legalResult_ok (h.congr rfl))
  | wrDeviceId | wrStatus | wrFbCurrent | wrFlipPending | wrVblankCount | wrUnmapped
  | wrFbAddr | wrFbWidth | wrFbHeight | wrFbBpp | wrFbPitch | wrCursorX | wrCursorY | wrCursorEnable
  | wrCursorHotspotX | wrCursorHotspotY => exact h.answersWrite rfl
  | rdDeviceId | rdStatus | rdControl | rdFbAddr | rdFbWidth | rdFbHeight | rdFbBpp | rdFbEnable | rdFbPitch
  | rdCursorX | rdCursorY | rdCursorEnable | rdCursorHotspotX | rdCursorHotspotY | rdCursorUpload | rdFbCount
  | rdFbCurrent | rdFbNext | rdPageFlip | rdFlipPending | rdVblankCount | rdUnmapped =>
    refine h.answersData ?_ _
    rfl

/-! ## Every step -/

/-- A step to `t` keeps the invariant, and gives no response or one ordinary response. -/
structure LegalStep (s t : State) : Prop where
  inv : Inv t
  responds : t.out = s.out ∨ ∃ r, t.out = s.out ++ [r] ∧ OrdinaryResponse r

/-- The response of an operation that answers legally is its one new response. -/
theorem legalStep_of_answers {s t : State} {o : StepOutcome} (hlegal : AnswersLegally o) (hone : Answers s o)
    (ho : o = .next t) : LegalStep s t := by
  obtain ⟨u, r, hr, hinv, hord⟩ := hlegal
  obtain ⟨u', r', hr', heff, -⟩ := hone
  obtain rfl := Host.Outcome.next.inj (ho.symm.trans hr)
  have hout : u.out ++ [r] = u'.out ++ [r'] := congrArg State.out (Host.Outcome.next.inj (hr.symm.trans hr'))
  rw [heff.out] at hout
  obtain ⟨-, rfl⟩ := List.append_singleton_inj.mp hout
  exact ⟨inv_respond hinv r, .inr ⟨r, hout, hord⟩⟩

theorem present_legalStep {s : State} (h : Inv s) (job : RenderJob) (scratch : Array Byte) :
    LegalStep s (s.present job scratch) :=
  ⟨(idle_present h job scratch).inv, .inr ⟨_, rfl, nofun⟩⟩

theorem renderAdvance_legalStep {s : State} {job : RenderJob} (h : Inv s) (hren : s.render = some job) (pick : Nat) :
    LegalStep s (s.renderAdvance job pick) := by
  by_cases htodo : job.todo = []
  · rw [renderAdvance_nil htodo]
    exact present_legalStep h job _
  · rw [renderAdvance_cons htodo]
    exact ⟨⟨h.params, h.flip, h.control, h.vram, h.surface, renderLegal_readByte h.render hren htodo pick⟩, .inl rfl⟩

theorem execRender_legalStep {s t : State} (h : Idle s) (hexec : execRender s = .next t) : LegalStep s t := by
  rcases hgate : s.gate with _ | reason
  · by_cases hsched : s.sched = []
    · obtain rfl := Host.Outcome.next.inj (hexec.symm.trans (execRender_whole hgate hsched))
      exact present_legalStep h.inv _ _
    · obtain rfl := Host.Outcome.next.inj (hexec.symm.trans (execRender_begin hgate hsched))
      have hrender := renderLegal_begin (gateOpen_of_gate hgate)
      exact ⟨⟨h.params, h.flip, h.control, h.vram, h.surface, hrender⟩, .inl rfl⟩
  · obtain rfl := Host.Outcome.next.inj (hexec.symm.trans (execRender_noOp hgate))
    exact ⟨inv_respond h.inv _, .inr ⟨_, rfl, nofun⟩⟩

theorem exec_answers {i : Instr} (hi : i ≠ .render) (s : State) : Answers s (exec i s) :=
  (exec_cases i s).resolve_right fun ⟨hrender, _⟩ => hi hrender

theorem exec_legalStep {i : Instr} {s t : State} (h : Idle s) (hexec : exec i s = .next t) : LegalStep s t := by
  by_cases hi : i = .render
  · subst hi
    exact execRender_legalStep h hexec
  · exact legalStep_of_answers (exec_answersLegally hi h) (exec_answers hi s) hexec

theorem exec_vram_legalStep {i : Instr} (hport : i.port = .vram) {s t : State} (h : Inv s)
    (hexec : exec i s = .next t) : LegalStep s t := by
  have hi : i ≠ .render := by rintro rfl; cases hport
  exact legalStep_of_answers (exec_vram_answersLegally hport h) (exec_answers hi s) hexec

/-- The invariant does not speak of the words and the choices still offered. -/
theorem inv_consume {s : State} (h : Inv s) (input : List Word) (sched : List Choice) :
    Inv { s with input := input, sched := sched } :=
  ⟨h.params, h.flip, h.control, h.vram, h.surface, h.render⟩

/-- An operation outside a render starts in an `Idle` state; inside one, a step reads a byte, presents, or runs a
VRAM-port transaction, which changes nothing the render has fixed. -/
theorem step_legalStep {s t : State} (h : Inv s) (hstep : step s = .next t) : LegalStep s t := by
  rcases step_cases hstep with ⟨-, -, rfl⟩ | ⟨i, rest, hren, -, hexec⟩ | ⟨job, hren, hin⟩
  · exact ⟨h, .inl rfl⟩
  · obtain ⟨hinv, hout⟩ := exec_legalStep (idle_of_inv (inv_consume h rest s.sched) hren) hexec
    exact ⟨hinv, hout⟩
  · rcases insideRenderStep_cases job s with ⟨-, e⟩ | ⟨pick, cs, e⟩ | ⟨i, rest, cs, hport, -, e⟩
    · obtain rfl := Host.Outcome.next.inj (hin.symm.trans e)
      exact present_legalStep h job _
    · obtain rfl := Host.Outcome.next.inj (hin.symm.trans e)
      obtain ⟨hinv, hout⟩ := renderAdvance_legalStep (inv_consume h s.input cs) hren pick
      exact ⟨hinv, hout⟩
    · obtain ⟨hinv, hout⟩ := exec_vram_legalStep hport (inv_consume h rest cs) (e.symm.trans hin)
      exact ⟨hinv, hout⟩

/-- Settles O44, by the kind of step. -/
theorem stepKeepsInvariant : Obligations.StepKeepsInvariant := fun _ _ h hstep => (step_legalStep h hstep).inv

/-- Settles O49: no flip is pending because the next state is legal, and a legal step responds ordinarily. -/
theorem busyAndTimeoutAreNeverReturned : Obligations.BusyAndTimeoutAreNeverReturned := by
  intro s t h hstep
  obtain ⟨hinv, hresponds⟩ := step_legalStep h hstep
  obtain ⟨-, -, -, -, -, hpending⟩ := hinv.flip
  exact ⟨hpending, hresponds⟩

end Sys2Proof.Proofs
end

section
/-! SUPPORT. Page flips: a run counts its successful flips (41_framebuffer_manager.md R159), and a flip in a legal
state points FB_ADDR at a slice inside VRAM (10_state.md R42, R50). -/

namespace Sys2Proof.Proofs

open Sys2Proof.Machine Sys2Proof.Claims Sys2Proof.Safety

/-! ## What an operation adds to the vblank count (10_state.md R41) -/

/-- From `s` to `t` the vblank count goes up by one modulo 2^32 if a flip succeeds, and stays as it is if none does. -/
def Counts (succeeds : Bool) (s t : State) : Prop :=
  t.vblankCount.toNat = (s.vblankCount.toNat + if succeeds then 1 else 0) % 2 ^ 32

theorem counts_true {s t : State} (h : t.vblankCount = s.vblankCount + 1) : Counts true s t := by
  simp [Counts, h]

theorem counts_false {s t : State} (h : t.vblankCount = s.vblankCount) : Counts false s t := by
  simp [Counts, h, Nat.mod_eq_of_lt s.vblankCount.isLt]

/-- A flip of `index` succeeds (41_framebuffer_manager.md R152). -/
def canFlip (s : State) (index : Word) : Bool := decide (index.toNat < s.fbCount.toNat) && !s.pending

theorem requestFlip_counts (s : State) (index : Word) : Counts (canFlip s index) s (s.requestFlip index).2 := by
  rcases requestFlip_cases s index with ⟨hindex, e⟩ | ⟨-, hpending, e⟩ | ⟨hindex, hpending, e⟩ <;> rw [e]
  · have hno : canFlip s index = false := by simp [canFlip, Nat.not_lt.mpr hindex]
    exact hno ▸ counts_false rfl
  · have hno : canFlip s index = false := by simp [canFlip, hpending]
    exact hno ▸ counts_false rfl
  · have hyes : canFlip s index = true := by simp [canFlip, hindex, hpending]
    exact hyes ▸ counts_true rfl

theorem absorbFailure_vblankCount (off : Off) (r : ResultCode × State) :
    (absorbFailure off r).vblankCount = r.2.vblankCount := by
  obtain ⟨code, u⟩ := r
  cases code <;> rfl

theorem shapeWrite_eq_zero_iff (d : Data) (sz : AccessSize) :
    shapeWrite d sz = 0 ↔ d.toNat % 2 ^ min (8 * sizeBytes sz) 32 = 0 := by
  rw [← BitVec.toNat_inj, shapeWrite_toNat]
  rfl

/-- An operation that requests no flip counts none. -/
theorem exec_counts_false {i : Instr} {s t : State} (hexec : exec i s = .next t) (hi : ∀ index, ¬ Flips i s index) :
    Counts false s t := by
  cases change_of_exec hexec with
  | keeps h => exact counts_false h.vblankCount
  | vramWrite | setup | rendered => exact counts_false rfl
  | flip hflip => exact absurd hflip (hi _)

theorem exec_requestFlip_counts {index wait : Word} {s t : State} (hexec : exec (.requestFlip index wait) s = .next t) :
    Counts (canFlip s index) s t := by
  obtain rfl := Host.Outcome.next.inj hexec
  exact requestFlip_counts s index

theorem exec_wrPageFlip_counts {sz : AccessSize} {d : Data} {s t : State}
    (hexec : exec (.wrPageFlip sz d) s = .next t) : Counts (decide (shapeWrite d sz ≠ 0) && canFlip s s.next) s t := by
  obtain rfl := Host.Outcome.next.inj hexec
  by_cases hv : shapeWrite d sz ≠ 0
  · rw [decide_eq_true hv, if_pos hv, Bool.true_and]
    exact (congrArg BitVec.toNat (absorbFailure_vblankCount _ _)).trans (requestFlip_counts s s.next)
  · rw [decide_eq_false hv, if_neg hv, Bool.false_and]
    exact counts_false rfl

/-! ## What a step and a run add to the vblank count (41_framebuffer_manager.md R159) -/

theorem flipSucceeds_insideRender {s : State} {job : RenderJob} (h : s.render = some job) :
    flipSucceeds s = false := by
  simp [flipSucceeds, h]

theorem flipSucceeds_other {s : State} {i : Instr} {rest : List Word} (hdec : decode s.input = .ok i rest)
    (hi : ∀ index, ¬ Flips i s index) : flipSucceeds s = false := by
  simp only [flipSucceeds, hdec, Bool.and_eq_false_imp]
  intro _
  split
  · next heq => cases heq; exact absurd (.inl ⟨_, rfl⟩) (hi _)
  · next heq => cases heq; exact absurd (.inr ⟨rfl, _, _, rfl⟩) (hi s.next)
  · rfl

theorem flipSucceeds_requestFlip {s : State} {index wait : Word} {rest : List Word} (hren : s.render = none)
    (hdec : decode s.input = .ok (.requestFlip index wait) rest) : flipSucceeds s = canFlip s index := by
  simp [flipSucceeds, canFlip, hren, hdec]

theorem flipSucceeds_wrPageFlip {s : State} {sz : AccessSize} {d : Data} {rest : List Word} (hren : s.render = none)
    (hdec : decode s.input = .ok (.wrPageFlip sz d) rest) :
    flipSucceeds s = (decide (shapeWrite d sz ≠ 0) && canFlip s s.next) := by
  simp [flipSucceeds, canFlip, hren, hdec, ← shapeWrite_eq_zero_iff, Bool.and_assoc]

/-- The operation offered next counts a flip exactly when the step is said to be a successful one. -/
theorem exec_counts {i : Instr} {rest : List Word} {s t : State} (hren : s.render = none)
    (hdec : decode s.input = .ok i rest) (hexec : exec i { s with input := rest } = .next t) :
    Counts (flipSucceeds s) s t := by
  by_cases hflip : ∃ index, Flips i s index
  · obtain ⟨index, ⟨wait, rfl⟩ | ⟨-, sz, d, rfl⟩⟩ := hflip
    · rw [flipSucceeds_requestFlip hren hdec]
      exact (exec_requestFlip_counts hexec :)
    · rw [flipSucceeds_wrPageFlip hren hdec]
      exact (exec_wrPageFlip_counts hexec :)
  · rw [flipSucceeds_other hdec (not_exists.mp hflip)]
    exact (exec_counts_false hexec (not_exists.mp hflip) :)

theorem renderAdvance_vblankCount (s : State) (job : RenderJob) (pick : Nat) :
    (s.renderAdvance job pick).vblankCount = s.vblankCount := by
  by_cases h : job.todo = []
  · rw [renderAdvance_nil h]
    rfl
  · rw [renderAdvance_cons h]

theorem not_flips_of_vram {i : Instr} (hport : i.port = .vram) (s : State) (index : Word) : ¬ Flips i s index := by
  rintro (⟨_, rfl⟩ | ⟨-, _, _, rfl⟩) <;> cases hport

/-- Inside a render nothing flips: the one operation that can fall there is a VRAM-port transaction. -/
theorem insideRenderStep_counts {job : RenderJob} {s t : State} (h : insideRenderStep job s = .next t) :
    Counts false s t := by
  rcases insideRenderStep_cases job s with ⟨-, e⟩ | ⟨pick, cs, e⟩ | ⟨i, rest, cs, hport, -, e⟩
  · obtain rfl := Host.Outcome.next.inj (h.symm.trans e)
    exact counts_false rfl
  · obtain rfl := Host.Outcome.next.inj (h.symm.trans e)
    exact counts_false (renderAdvance_vblankCount _ job pick)
  · exact (exec_counts_false (e.symm.trans h) (not_flips_of_vram hport _) :)

theorem step_counts {s t : State} (h : step s = .next t) : Counts (flipSucceeds s) s t := by
  rcases step_cases h with ⟨-, hdec, rfl⟩ | ⟨i, rest, hren, hdec, hexec⟩ | ⟨job, hren, hin⟩
  · simpa [flipSucceeds, hdec] using counts_false (s := t) rfl
  · exact exec_counts hren hdec hexec
  · rw [flipSucceeds_insideRender hren]
    exact insideRenderStep_counts hin

theorem flips_succ {s t : State} (k : Nat) (h : step s = .next t) :
    flips (k + 1) s = (if flipSucceeds s then 1 else 0) + flips k t := by
  simp [flips, h]

/-- Settles O48, by induction over the run: each step adds what it counts, modulo 2^32. -/
theorem vblankCountIsTheNumberOfFlips : Obligations.VblankCountIsTheNumberOfFlips := by
  intro k s t hrun
  induction k generalizing s with
  | zero =>
    obtain rfl := Host.Outcome.next.inj ((run_zero s).symm.trans hrun)
    exact (Nat.mod_eq_of_lt s.vblankCount.isLt).symm
  | succ k ih =>
    obtain ⟨u, hstep, hrest⟩ := run_succ_next hrun
    rw [ih u hrest, step_counts hstep, flips_succ k hstep, Nat.mod_add_mod, Nat.add_assoc]

/-! ## The slice a flip shows (10_state.md R42, R50) -/

/-- The slice of an index of the set ends inside VRAM. -/
theorem slice_end_le {s : State} (h : Inv s) {index : Word} (hindex : index.toNat < s.fbCount.toNat) :
    index.toNat * s.fbSize + s.fbSize ≤ s.params.vramSize := by
  obtain ⟨-, -, -, -, hslices, -⟩ := h.flip
  calc index.toNat * s.fbSize + s.fbSize
      = s.fbSize * (index.toNat + 1) := by ring
    _ ≤ s.fbSize * s.fbCount.toNat := Nat.mul_le_mul_left _ hindex
    _ ≤ s.params.vramSize := hslices

/-- VRAM has at most 2^32 bytes, so the start of a slice is a u32; of an empty slice because it is 0. -/
theorem flipped_fbAddr {s : State} (h : Inv s) {index : Word} (hindex : index.toNat < s.fbCount.toNat) :
    (flipped index s).fbAddr.toNat = index.toNat * s.fbSize := by
  have hend := slice_end_le h hindex
  obtain ⟨-, hvram, -⟩ := h.params
  refine (BitVec.toNat_ofNat _ _).trans (Nat.mod_eq_of_lt ?_)
  rcases Nat.eq_zero_or_pos s.fbSize with hzero | hpos
  · simp [hzero]
  · exact (Nat.lt_add_of_pos_right hpos).trans_le (hend.trans hvram)

/-- Settles O50: of the cases of `Change`, only a flip counts, and its index is one of the set. -/
theorem flipShowsASliceOfVram : Obligations.FlipShowsASliceOfVram := by
  intro i s t h hexec hne
  cases change_of_exec hexec with
  | keeps hkeeps => exact absurd hkeeps.vblankCount hne
  | vramWrite | setup | rendered => exact absurd rfl hne
  | flip _ hindex =>
    have haddr := flipped_fbAddr h hindex
    exact ⟨haddr, haddr ▸ slice_end_le h hindex⟩

end Sys2Proof.Proofs
end

section
/-! SUPPORT. The FramebufferManager (41_framebuffer_manager.md): its registers, and its commands with their answers. -/

namespace Sys2Proof.Proofs

open Sys2Proof.Machine Sys2Proof.Claims

/-! ## Register reads -/

/-- Settles O11: each offset selects its row, whose meaning completes with the register, FLIP_PENDING as 1 or 0. -/
theorem setRegisterReads : Obligations.SetRegisterReads := by
  refine ⟨?_, ?_, ?_, ?_, ?_⟩
  all_goals exact readRow_of_exec (by decide) (fun _ => rfl) fun _ _ => rfl

/-! ## The shared operations as equations (41_framebuffer_manager.md R150 to R152) -/

theorem setupMulti_eq (s : State) (count w h bpp : Word) :
    s.setupMulti count w h bpp =
      if count.toNat > 4 ∨ count.toNat = 0 then (.invalidArgument, s)
      else if w.toNat * (bpp.toNat / 8) * h.toNat * count.toNat > s.params.vramSize then (.outOfMemory, s)
      else (.ok, multiSet count w h bpp s) := rfl

theorem requestFlip_eq (s : State) (index : Word) :
    s.requestFlip index =
      if index.toNat ≥ s.fbCount.toNat then (.invalidArgument, s)
      else if s.pending then (.busy, s)
      else (.ok, flipped index s) := by
  rw [flipped, ← word_add_one]
  rfl

/-! ## Register writes: a failure is absorbed (60_exceptions.md R301) -/

theorem absorbFailure_setupMulti (s : State) (off : Off) (v w h bpp : Word) :
    absorbFailure off (s.setupMulti v w h bpp) =
      if 1 ≤ v.toNat ∧ v.toNat ≤ 4 ∧ w.toNat * (bpp.toNat / 8) * h.toNat * v.toNat ≤ s.params.vramSize then
        multiSet v w h bpp s
      else logged .rejectedWrite off s := by
  rcases setupMulti_cases s v w h bpp with ⟨hv, e⟩ | ⟨-, -, hfit, e⟩ | ⟨hpos, hmax, hfit, e⟩ <;> rw [e]
  · rw [if_neg (by omega)]
    rfl
  · rw [if_neg fun ⟨_, _, hle⟩ => hfit.not_ge hle]
    rfl
  · rw [if_pos ⟨hpos, hmax, hfit⟩]
    rfl

theorem absorbFailure_requestFlip (s : State) (off : Off) (index : Word) :
    absorbFailure off (s.requestFlip index) =
      if index.toNat < s.fbCount.toNat ∧ s.pending = false then flipped index s
      else logged .rejectedWrite off s := by
  rcases requestFlip_cases s index with ⟨hindex, e⟩ | ⟨-, hpending, e⟩ | ⟨hindex, hpending, e⟩ <;> rw [e]
  · rw [if_neg fun ⟨hlt, _⟩ => hindex.not_gt hlt]
    rfl
  · rw [if_neg fun ⟨_, hidle⟩ => Bool.false_ne_true (hidle.symm.trans hpending)]
    rfl
  · rw [if_pos ⟨hindex, hpending⟩, word_add_one]
    rfl

/-- Settles O22: the write is setup_multi with the mode registers, its failures absorbed. -/
theorem fbCountWrite : Obligations.FbCountWrite :=
  writeRow_of_exec (by decide) (fun _ _ => rfl) fun _ _ s =>
    congrArg completeWrite (absorbFailure_setupMulti s 0x03C _ _ _ _)

/-- Settles O23: the row's meaning is the store or the diagnostic, as the value is below the count or not. -/
theorem fbNextWrite : Obligations.FbNextWrite :=
  writeRow_of_exec (by decide) (fun _ _ => rfl) fun _ _ _ => rfl

/-- Settles O24: a nonzero write is request_flip of FB_NEXT, its failures absorbed. -/
theorem pageFlipWrite : Obligations.PageFlipWrite :=
  writeRow_of_exec (by decide) (fun _ _ => rfl) fun sz d s => by
    rw [← absorbFailure_requestFlip]
    exact congrArg completeWrite (ite_not ..)

/-! ## Commands -/

/-- Settles O26: the capacity check selects the answer. -/
theorem setupSingle : Obligations.SetupSingle := by
  refine fun w h bpp s => ⟨decodeOfEncodeIsTheOperation (.setupSingle w h bpp) rfl, ?_⟩
  exact apply_ite completeCommand ..

/-- Settles O27: the two checks, in their order, select the answer. -/
theorem setupMulti : Obligations.SetupMulti := by
  refine fun count w h bpp s => ⟨decodeOfEncodeIsTheOperation (.setupMulti count w h bpp) rfl, ?_⟩
  refine (congrArg completeCommand (setupMulti_eq s count w h bpp)).trans ?_
  rw [apply_ite completeCommand, apply_ite completeCommand]
  rfl

/-- Settles O28: the two checks, in their order, select the answer, and the start of a slice of the set is a u32. -/
theorem requestFlip : Obligations.RequestFlip := by
  refine fun index wait s =>
    ⟨decodeOfEncodeIsTheOperation (.requestFlip index wait) rfl, ?_, fun hinv hindex => flipped_fbAddr hinv hindex⟩
  refine (congrArg completeCommand (requestFlip_eq s index)).trans ?_
  rw [apply_ite completeCommand, apply_ite completeCommand]
  rfl

/-- The record of DESCRIBE has the offsets of the buffers of the set, and 0 beyond them. -/
theorem setInfo_offsets (s : State) (i : Fin 4) :
    s.setInfo.offsets[i] = if i.val < s.fbCount.toNat then i.val * s.fbSize else 0 := by
  fin_cases i <;> rfl

/-- Settles O29: each answer is the state's own, and only `pending` selects between two. -/
theorem queryCommands : Obligations.QueryCommands := by
  refine fun budget s => ⟨⟨decodeOfEncodeIsTheOperation (.waitForFlip budget) rfl, ?_⟩,
    ⟨decodeOfEncodeIsTheOperation .describe rfl, s.setInfo, rfl, rfl, rfl, rfl, setInfo_offsets s⟩,
    ⟨decodeOfEncodeIsTheOperation .getVramSize rfl, rfl⟩⟩
  exact apply_ite (fun code => returns code s) ..

end Sys2Proof.Proofs
end

section
/-! SUPPORT. The CursorOverlay (42_cursor_overlay.md): its registers and commands, what a list of uploads leaves in the
bitmap, the upload cursor and the marks, and what moves the cursor enable state machine. -/

namespace Sys2Proof.Proofs

open Sys2Proof.Machine Sys2Proof.Claims

/-! ## Registers and commands that store -/

/-- Settles O12: each offset selects its row, whose meaning completes with the register. -/
theorem cursorRegisterReads : Obligations.CursorRegisterReads := by
  refine ⟨?_, ?_, ?_, ?_, ?_⟩
  all_goals exact readRow_of_exec (by decide) (fun _ => rfl) fun _ _ => rfl

/-- Settles O18: each offset selects its row, whose meaning is the store and the mark. -/
theorem storingAndMarkingWrites : Obligations.StoringAndMarkingWrites := by
  refine ⟨?_, ?_, ?_, ?_, ?_, ?_⟩
  all_goals exact writeRow_of_exec (by decide) (fun _ _ => rfl) fun _ _ _ => rfl

/-- Settles O20: both offsets select their rows, whose meaning is the store alone. -/
theorem hotspotWrites : Obligations.HotspotWrites :=
  ⟨writeRow_of_exec (by decide) (fun _ _ => rfl) fun _ _ _ => rfl,
    writeRow_of_exec (by decide) (fun _ _ => rfl) fun _ _ _ => rfl⟩

/-- Settles O30: each meaning is the store, of SET_ENABLED the argument as 1 or 0. -/
theorem cursorCommands : Obligations.CursorCommands := by
  refine fun x y b s => ⟨⟨decodeOfEncodeIsTheOperation (.setPosition x y) rfl, rfl⟩,
    ⟨decodeOfEncodeIsTheOperation (.setHotspot x y) rfl, rfl⟩, decodeOfEncodeIsTheOperation (.setEnabled b) rfl, ?_⟩
  rw [← boolWord_eq]
  rfl

/-! ## Uploads in the words of the rule (42_cursor_overlay.md R204, R205) -/

theorem uploadPixel_eq (s : State) (p : Word) : s.uploadPixel p = uploaded p s := by
  rcases uploadPixel_cases s p with ⟨hlt, e⟩ | ⟨hlast, e⟩
  · have hsucc : (⟨s.uploadCursor.val + 1, hlt⟩ : Fin 4096) = s.uploadCursor + 1 :=
      Fin.ext (Fin.val_add_one_of_lt' hlt).symm
    rw [e, uploaded, if_neg (by omega), hsucc]
  · rw [e, uploaded, if_pos hlast]

theorem uploadPixels_eq (s : State) (ps : List Word) :
    s.uploadPixels ps = ps.foldl (fun u p => uploaded p u) s :=
  congrArg (List.foldl · s ps) (funext₂ uploadPixel_eq)

/-- Settles O25: both operations have the one effect of `upload_pixel`. -/
theorem pixelUploads : Obligations.PixelUploads :=
  ⟨writeRow_of_exec (by decide) (fun _ _ => rfl) fun _ _ s => congrArg completeWrite (uploadPixel_eq s _),
    fun p s => ⟨decodeOfEncodeIsTheOperation (.uploadPixel p) rfl,
      congrArg (fun u => completeCommand (.ok, u)) (uploadPixel_eq s p)⟩⟩

/-- Settles O31: the words are the encoder's, and the check of count selects the answer. -/
theorem uploadBulk : Obligations.UploadBulk := by
  refine fun count pixels s => ⟨fun hlen => ⟨count :: BitVec.ofNat 32 pixels.length :: pixels, ?_⟩, ?_⟩
  · exact decode_encode_uploadBulk count hlen
  · rw [← uploadPixels_eq]
    exact apply_ite completeCommand ..

/-- UPLOAD_BULK of a count that is neither above the image nor above the list. -/
theorem exec_uploadBulk {count : Word} {pixels : List Word} (s : State) (hmax : count.toNat ≤ 4096)
    (hlen : pixels.length = count.toNat) :
    exec (.uploadBulk count pixels) s = .next ((s.uploadPixels pixels).respond (.result .ok .none)) := by
  obtain ⟨-, hexec⟩ := uploadBulk count pixels s
  rw [hexec, if_neg (by omega), ← uploadPixels_eq, ← hlen, List.take_length]
  rfl

/-! ## What one upload writes -/

@[simp] theorem uploadPixel_bitmap (s : State) (p : Word) :
    (s.uploadPixel p).bitmap = s.bitmap.set s.uploadCursor.val p s.uploadCursor.isLt := by
  rcases uploadPixel_cases s p with ⟨_, e⟩ | ⟨-, e⟩ <;> rw [e]

@[simp] theorem uploadPixel_uploadCursor (s : State) (p : Word) :
    (s.uploadPixel p).uploadCursor.val = (s.uploadCursor.val + 1) % 4096 := by
  rcases uploadPixel_cases s p with ⟨hlt, e⟩ | ⟨hlast, e⟩ <;> rw [e]
  · exact (Nat.mod_eq_of_lt hlt).symm
  · simp [hlast]

/-- The upload at the last slot sets the loaded bit and dirty, and no other one does. -/
theorem uploadPixel_marks (s : State) (p : Word) :
    (s.uploadPixel p).cursorLoaded = (s.cursorLoaded || s.uploadCursor.val = 4095) ∧
    (s.uploadPixel p).dirty = (s.dirty || s.uploadCursor.val = 4095) := by
  rcases uploadPixel_cases s p with ⟨hlt, e⟩ | ⟨hlast, e⟩ <;> rw [e]
  · have hne : s.uploadCursor.val ≠ 4095 := by omega
    simp [hne]
  · simp [hlast]

/-! ## What a list of uploads writes -/

theorem uploadPixels_uploadCursor (s : State) (ps : List Word) :
    (s.uploadPixels ps).uploadCursor.val = (s.uploadCursor.val + ps.length) % 4096 := by
  induction ps generalizing s with
  | nil => exact (Nat.mod_eq_of_lt s.uploadCursor.isLt).symm
  | cons p ps ih =>
    rw [uploadPixels_cons, ih, uploadPixel_uploadCursor, List.length_cons]
    omega

/-- The loaded bit and dirty are set as soon as the uploads pass the last slot. -/
theorem uploadPixels_marks (s : State) (ps : List Word) :
    (s.uploadPixels ps).cursorLoaded = (s.cursorLoaded || 4096 ≤ s.uploadCursor.val + ps.length) ∧
    (s.uploadPixels ps).dirty = (s.dirty || 4096 ≤ s.uploadCursor.val + ps.length) := by
  induction ps generalizing s with
  | nil =>
    have hlt := s.uploadCursor.isLt.not_ge
    simp [hlt]
  | cons p ps ih =>
    obtain ⟨hloaded, hdirty⟩ := uploadPixel_marks s p
    obtain ⟨ihloaded, ihdirty⟩ := ih (s.uploadPixel p)
    have hlt := s.uploadCursor.isLt
    have hend : (s.uploadCursor.val = 4095 ∨ 4096 ≤ (s.uploadCursor.val + 1) % 4096 + ps.length) ↔
        4096 ≤ s.uploadCursor.val + (ps.length + 1) := by omega
    rw [uploadPixels_cons, ihloaded, ihdirty, hloaded, hdirty]
    simp [Bool.or_assoc, ← Bool.decide_or, hend]

/-- A slot that none of the uploads reaches keeps its pixel (42_cursor_overlay.md R207). -/
theorem uploadPixels_bitmap_other (s : State) (ps : List Word) {k : Nat}
    (hk : ∀ j, j < ps.length → (s.uploadCursor.val + j) % 4096 ≠ k) :
    (s.uploadPixels ps).bitmap.toArray[k]? = s.bitmap.toArray[k]? := by
  induction ps generalizing s with
  | nil => rfl
  | cons p ps ih =>
    have hfirst : s.uploadCursor.val ≠ k := by
      have := hk 0 (Nat.succ_pos _)
      have := s.uploadCursor.isLt
      omega
    rw [uploadPixels_cons, ih _ fun j hj => ?_]
    · simp [hfirst]
    · have := hk (j + 1) (Nat.succ_lt_succ hj)
      rw [uploadPixel_uploadCursor]
      omega

/-- Up to a whole image, pixel j stays in the slot it went to: no later upload comes back to it. -/
theorem uploadPixels_bitmap_stored (s : State) {ps : List Word} (hps : ps.length ≤ 4096) {j : Nat}
    (hj : j < ps.length) :
    (s.uploadPixels ps).bitmap.toArray[(s.uploadCursor.val + j) % 4096]? = ps[j]? := by
  induction ps generalizing s j with
  | nil => cases hj
  | cons p ps ih =>
    rw [List.length_cons] at hps hj
    have hlt := s.uploadCursor.isLt
    rw [uploadPixels_cons]
    cases j with
    | zero =>
      rw [Nat.add_zero, Nat.mod_eq_of_lt hlt, uploadPixels_bitmap_other]
      · simp [hlt]
      · intro i hi
        rw [uploadPixel_uploadCursor]
        omega
    | succ j =>
      have hslot : (s.uploadCursor.val + (j + 1)) % 4096 = ((s.uploadPixel p).uploadCursor.val + j) % 4096 := by
        rw [uploadPixel_uploadCursor]
        omega
      rw [hslot, List.getElem?_cons_succ]
      exact ih _ (by omega) (by omega)

/-- Settles O32: 4096 uploads reach every slot once and pass the last one, and the cursor moves modulo 4096. -/
theorem wholeImageUploadFromAnyCursor : Obligations.WholeImageUploadFromAnyCursor := by
  intro pixels s hlen
  obtain ⟨hloaded, hdirty⟩ := uploadPixels_marks s pixels
  have hpast : 4096 ≤ s.uploadCursor.val + pixels.length := by omega
  refine ⟨_, exec_uploadBulk s (by decide) hlen, Fin.ext ?_, by simp [hloaded, hpast], by simp [hdirty, hpast],
    fun j hj => uploadPixels_bitmap_stored s hlen.le (hj.trans_eq hlen.symm)⟩
  have := s.uploadCursor.isLt
  rw [State.respond_uploadCursor, uploadPixels_uploadCursor]
  omega

/-- Settles O33: below the last slot the slots are u + j without wrapping, and no upload marks. -/
theorem partialUploadKeepsStalePixels : Obligations.PartialUploadKeepsStalePixels := by
  intro count pixels s hlen hend
  obtain ⟨hloaded, hdirty⟩ := uploadPixels_marks s pixels
  have hslot (j : Nat) (hj : j ≤ count.toNat) : (s.uploadCursor.val + j) % 4096 = s.uploadCursor.val + j :=
    Nat.mod_eq_of_lt (by omega)
  refine ⟨_, exec_uploadBulk s (by omega) hlen, ?_, ?_, fun j hj => ?_, fun k hk => ?_⟩
  · rw [State.respond_uploadCursor, uploadPixels_uploadCursor, hlen, hslot _ le_rfl]
  · have hopen : ¬ 4096 ≤ s.uploadCursor.val + pixels.length := by omega
    rw [uploadPixels_frame, hloaded, hdirty]
    simp [State.respond, hopen]
  · have := uploadPixels_bitmap_stored s (by omega : pixels.length ≤ 4096) (hj.trans_eq hlen.symm)
    rwa [hslot j hj.le] at this
  · refine uploadPixels_bitmap_other s pixels fun j hj => ?_
    rw [hslot j (by omega)]
    omega

/-! ## The cursor enable state machine (42_cursor_overlay.md R203) -/

theorem cursorEnable_ite {s u v : State} {c : Prop} [Decidable c] (hu : u.cursorEnable = s.cursorEnable)
    (hv : v.cursorEnable = s.cursorEnable) : (if c then u else v).cursorEnable = s.cursorEnable := by
  split
  · exact hu
  · exact hv

theorem uploadPixels_cursorEnable (s : State) (ps : List Word) : (s.uploadPixels ps).cursorEnable = s.cursorEnable := by
  rw [uploadPixels_frame]

theorem uploadBulk_cursorEnable (s : State) (count : Word) (pixels : List Word) :
    (s.uploadBulk count pixels).2.cursorEnable = s.cursorEnable := by
  rcases uploadBulk_cases s count pixels with ⟨-, e⟩ | ⟨-, -, e⟩ <;> rw [e]
  exact uploadPixels_cursorEnable s _

theorem setupSingle_cursorEnable (s : State) (w h bpp : Word) :
    (s.setupSingle w h bpp).2.cursorEnable = s.cursorEnable := by
  rcases setupSingle_cases s w h bpp with ⟨-, e⟩ | ⟨-, e⟩ <;> rw [e]
  exact State.programMode_cursorEnable ..

theorem setupMulti_cursorEnable (s : State) (count w h bpp : Word) :
    (s.setupMulti count w h bpp).2.cursorEnable = s.cursorEnable := by
  rcases setupMulti_cases s count w h bpp with ⟨-, e⟩ | ⟨-, -, -, e⟩ | ⟨-, -, -, e⟩ <;> rw [e]
  exact State.programMode_cursorEnable ..

theorem requestFlip_cursorEnable (s : State) (index : Word) :
    (s.requestFlip index).2.cursorEnable = s.cursorEnable := by
  rcases requestFlip_cases s index with ⟨-, e⟩ | ⟨-, -, e⟩ | ⟨-, -, e⟩ <;> rw [e]

theorem absorbFailure_cursorEnable (off : Off) (r : ResultCode × State) :
    (absorbFailure off r).cursorEnable = r.2.cursorEnable := by
  obtain ⟨code, u⟩ := r
  cases code <;> rfl

theorem execRender_cursorEnable (s : State) :
    ∃ t, execRender s = .next t ∧ t.cursorEnable = s.cursorEnable := by
  unfold execRender
  split
  · exact ⟨_, rfl, rfl⟩
  · split
    · exact ⟨_, rfl, rfl⟩
    · exact ⟨_, rfl, rfl⟩

/-- An operation leaves CURSOR_ENABLE as it is, but for the two that write it. -/
theorem exec_cursorEnable (i : Instr) (s : State) :
    (∃ sz d, i = .wrCursorEnable sz d) ∨ (∃ b, i = .setEnabled b) ∨
    ∃ t, exec i s = .next t ∧ t.cursorEnable = s.cursorEnable := by
  cases i with
  | wrCursorEnable sz d => exact .inl ⟨sz, d, rfl⟩
  | setEnabled b => exact .inr (.inl ⟨b, rfl⟩)
  | render => exact .inr (.inr (execRender_cursorEnable s))
  | wrControl | wrFbEnable | enableDisplay | wrFbNext | vwr =>
    exact .inr (.inr ⟨_, rfl, cursorEnable_ite rfl rfl⟩)
  | wrCursorUpload | uploadPixel => exact .inr (.inr ⟨_, rfl, uploadPixels_cursorEnable s [_]⟩)
  | uploadBulk => exact .inr (.inr ⟨_, rfl, uploadBulk_cursorEnable s _ _⟩)
  | setupSingle => exact .inr (.inr ⟨_, rfl, setupSingle_cursorEnable s _ _ _⟩)
  | setupMulti => exact .inr (.inr ⟨_, rfl, setupMulti_cursorEnable s _ _ _ _⟩)
  | requestFlip => exact .inr (.inr ⟨_, rfl, requestFlip_cursorEnable s _⟩)
  | wrFbCount =>
    exact .inr (.inr ⟨_, rfl, (absorbFailure_cursorEnable _ _).trans (setupMulti_cursorEnable s _ _ _ _)⟩)
  | wrPageFlip =>
    exact .inr (.inr ⟨_, rfl,
      cursorEnable_ite ((absorbFailure_cursorEnable _ _).trans (requestFlip_cursorEnable s _)) rfl⟩)
  | wrDeviceId | wrStatus | wrFbCurrent | wrFlipPending | wrVblankCount | wrUnmapped
  | wrFbAddr | wrFbWidth | wrFbHeight | wrFbBpp | wrFbPitch | wrCursorX | wrCursorY
  | wrCursorHotspotX | wrCursorHotspotY | setPosition | setHotspot | waitForFlip | describe | getVramSize | vrd
  | rdDeviceId | rdStatus | rdControl | rdFbAddr | rdFbWidth | rdFbHeight | rdFbBpp | rdFbEnable | rdFbPitch
  | rdCursorX | rdCursorY | rdCursorEnable | rdCursorHotspotX | rdCursorHotspotY | rdCursorUpload | rdFbCount
  | rdFbCurrent | rdFbNext | rdPageFlip | rdFlipPending | rdVblankCount | rdUnmapped =>
    exact .inr (.inr ⟨_, rfl, rfl⟩)

/-- The value written selects the state. -/
theorem writeCursorEnable_cursorShown (s : State) (v : Word) (r : Response) :
    ((s.writeCursorEnable v).respond r).cursorShown = true ↔ v ≠ 0 := bne_iff_ne

theorem shapeWrite_ne_zero (d : Data) (sz : AccessSize) :
    shapeWrite d sz ≠ 0 ↔ d.toNat % 2 ^ min (8 * sizeBytes sz) 32 ≠ 0 := by
  rw [← shapeWrite_toNat, ne_eq, BitVec.toNat_eq]
  rfl

theorem boolWord_ne_zero (b : Word) : boolWord b ≠ 0 ↔ b ≠ 0 :=
  ite_ne_right_iff.trans (and_iff_left (by decide))

/-- Settles O57: every operation but two leaves CURSOR_ENABLE, and those two are the one write effect. -/
theorem cursorEnableMachine : Obligations.CursorEnableMachine := by
  refine fun i s t hexec => ⟨fun hmoved => ?_, ?_, ?_⟩
  · rcases exec_cursorEnable i s with hwrite | hset | ⟨u, hu, hkept⟩
    · exact .inl hwrite
    · exact .inr hset
    · obtain rfl := Host.Outcome.next.inj (hexec.symm.trans hu)
      exact absurd hkept hmoved
  · rintro sz d rfl
    obtain rfl := Host.Outcome.next.inj hexec
    exact ⟨rfl, (writeCursorEnable_cursorShown s _ _).trans (shapeWrite_ne_zero d sz)⟩
  · rintro b rfl
    obtain rfl := Host.Outcome.next.inj hexec
    exact ⟨rfl, (writeCursorEnable_cursorShown s _ _).trans (boolWord_ne_zero b)⟩

end Sys2Proof.Proofs
end

section
/-! SUPPORT. Pixels as four bytes (43_compositor.md preamble): the little-endian word, the channels and the blend
(43_compositor.md R243, R245), and what the blend gives (R249). -/

namespace Sys2Proof.Proofs

open Sys2Proof.Machine Sys2Proof.Claims

/-! ## Words as four bytes -/

/-- The word of four bytes, the highest first. -/
def wordOfBytes (b3 b2 b1 b0 : Byte) : Word := (b3 ++ b2) ++ (b1 ++ b0)

theorem toNat_append_eq_add {m n : Nat} (x : BitVec m) (y : BitVec n) :
    (x ++ y).toNat = x.toNat * 2 ^ n + y.toNat := by
  rw [BitVec.toNat_append, ← Nat.shiftLeft_add_eq_or_of_lt y.isLt, Nat.shiftLeft_eq]

theorem wordOfBytes_toNat (b3 b2 b1 b0 : Byte) :
    (wordOfBytes b3 b2 b1 b0).toNat =
      b3.toNat * 2 ^ 24 + b2.toNat * 2 ^ 16 + b1.toNat * 2 ^ 8 + b0.toNat := by
  simp only [wordOfBytes, toNat_append_eq_add]
  omega

theorem wordOfBytes_eq_of_toNat {b3 b2 b1 b0 : Byte} {n : Nat}
    (h : n = b3.toNat * 2 ^ 24 + b2.toNat * 2 ^ 16 + b1.toNat * 2 ^ 8 + b0.toNat) :
    BitVec.ofNat 32 n = wordOfBytes b3 b2 b1 b0 := by
  rw [h, ← wordOfBytes_toNat, BitVec.ofNat_toNat, BitVec.setWidth_eq]

/-! ## Channels (43_compositor.md preamble) -/

theorem channel_eq (p : Word) (lo : Nat) : channel p lo = p.toNat / 2 ^ lo % 256 := toNat_extractLsb' p lo 8

theorem channel_le (p : Word) (lo : Nat) : channel p lo ≤ 255 := Nat.le_of_lt_succ (BitVec.isLt _)

theorem channel_wordOfBytes (b3 b2 b1 b0 : Byte) :
    channel (wordOfBytes b3 b2 b1 b0) 24 = b3.toNat ∧ channel (wordOfBytes b3 b2 b1 b0) 16 = b2.toNat ∧
    channel (wordOfBytes b3 b2 b1 b0) 8 = b1.toNat ∧ channel (wordOfBytes b3 b2 b1 b0) 0 = b0.toNat := by
  simp only [channel_eq, wordOfBytes_toNat]
  omega

theorem alphaOf_eq_channel (p : Word) : alphaOf p = channel p 24 := by
  rw [channel_eq, alphaOf]
  omega

theorem redOf_eq_channel (p : Word) : redOf p = channel p 16 := (channel_eq p 16).symm

theorem greenOf_eq_channel (p : Word) : greenOf p = channel p 8 := (channel_eq p 8).symm

theorem blueOf_eq_channel (p : Word) : blueOf p = channel p 0 := by
  rw [channel_eq, blueOf, Nat.pow_zero, Nat.div_one]

theorem opaquePixel_eq_wordOfBytes {r g b : Nat} (hr : r ≤ 255) (hg : g ≤ 255) (hb : b ≤ 255) :
    opaquePixel r g b = wordOfBytes 0xFF#8 (BitVec.ofNat 8 r) (BitVec.ofNat 8 g) (BitVec.ofNat 8 b) := by
  refine wordOfBytes_eq_of_toNat ?_
  simp only [BitVec.toNat_ofNat]
  omega

/-! ## The blend (43_compositor.md R245) -/

/-- A weighted mean of two channels is a channel, so nothing is clamped. -/
theorem blendChannel_le {fg bg a : Nat} (hfg : fg ≤ 255) (hbg : bg ≤ 255) (ha : a ≤ 255) :
    blendChannel fg bg a ≤ 255 := by
  refine Nat.div_le_of_le_mul ?_
  calc fg * a + bg * (255 - a)
      ≤ 255 * a + 255 * (255 - a) := Nat.add_le_add (Nat.mul_le_mul_right _ hfg) (Nat.mul_le_mul_right _ hbg)
    _ = 255 * 255 := by rw [← Nat.mul_add, Nat.add_sub_cancel' ha]

theorem blend_eq_blended (fg bg : Word) {a : Nat} (ha : a ≤ 255) : blend fg bg a = blended fg bg a := by
  simp only [blend, redOf_eq_channel, greenOf_eq_channel, blueOf_eq_channel]
  exact opaquePixel_eq_wordOfBytes (blendChannel_le (channel_le fg 16) (channel_le bg 16) ha)
    (blendChannel_le (channel_le fg 8) (channel_le bg 8) ha) (blendChannel_le (channel_le fg 0) (channel_le bg 0) ha)

/-- The blend is opaque, and its colour channels are the blended channels. -/
theorem channel_blend (fg bg : Word) {a : Nat} (ha : a ≤ 255) :
    channel (blend fg bg a) 24 = 255 ∧
    ∀ lo ∈ [0, 8, 16], channel (blend fg bg a) lo = blendChannel (channel fg lo) (channel bg lo) a := by
  have hbyte (lo : Nat) : (BitVec.ofNat 8 (blendChannel (channel fg lo) (channel bg lo) a)).toNat =
      blendChannel (channel fg lo) (channel bg lo) a := by
    have hle := blendChannel_le (channel_le fg lo) (channel_le bg lo) ha
    rw [BitVec.toNat_ofNat, Nat.mod_eq_of_lt (Nat.lt_succ_of_le hle)]
  obtain ⟨halpha, hred, hgreen, hblue⟩ := channel_wordOfBytes 0xFF#8 _ _ _
  rw [blend_eq_blended fg bg ha]
  refine ⟨halpha, ?_⟩
  simp only [List.forall_mem_cons]
  exact ⟨hblue.trans (hbyte 0), hgreen.trans (hbyte 8), hred.trans (hbyte 16), nofun⟩

/-- Settles O42: no channel passes 255, so the word of the channels is their bytes side by side. -/
theorem blendFormula : Obligations.BlendFormula := by
  intro fg bg a _ ha
  obtain ⟨halpha, hcolour⟩ := channel_blend fg bg ha.le
  exact ⟨blend_eq_blended fg bg ha.le, halpha, fun lo hlo =>
    ⟨blendChannel_le (channel_le fg lo) (channel_le bg lo) ha.le, hcolour lo hlo⟩⟩

/-! ## A cursor pixel over the background (43_compositor.md R244, R249) -/

theorem composePixel_transparent {p : Word} (h : channel p 24 = 0) (bg : Word) : composePixel p bg = bg := by
  simp [composePixel, alphaOf_eq_channel, h]

theorem composePixel_opaque {p : Word} (h : channel p 24 = 255) (bg : Word) : composePixel p bg = p := by
  simp [composePixel, alphaOf_eq_channel, h]

theorem composePixel_blend {p : Word} (h0 : channel p 24 ≠ 0) (h255 : channel p 24 ≠ 255) (bg : Word) :
    composePixel p bg = blend p bg (channel p 24) := by
  simp [composePixel, alphaOf_eq_channel, h0, h255]

theorem composePixel_eq_composed (p bg : Word) : composePixel p bg = composed p bg := by
  unfold composed
  split
  · exact composePixel_transparent ‹_› bg
  · split
    · exact composePixel_opaque ‹_› bg
    · rw [composePixel_blend ‹_› ‹_›, blend_eq_blended p bg (channel_le p 24)]

/-- At alpha 128 a blended channel is within 1 of the rounded mean. -/
theorem blendChannel_half {fg bg : Nat} (hfg : fg ≤ 255) (hbg : bg ≤ 255) :
    blendChannel fg bg 128 ≤ (fg + bg + 1) / 2 + 1 ∧ (fg + bg + 1) / 2 ≤ blendChannel fg bg 128 + 1 := by
  unfold blendChannel
  omega

/-- Settles O41: alpha 128 takes the blend, whose channels are nearly the mean. -/
theorem compositingProperties : Obligations.CompositingProperties := by
  refine fun p bg => ⟨(composePixel_opaque · bg), (composePixel_transparent · bg), fun h => ?_⟩
  obtain ⟨halpha, hcolour⟩ := channel_blend p bg (a := 128) (by decide)
  rw [composePixel_blend (by omega) (by omega), h]
  refine ⟨halpha, fun lo hlo => ?_⟩
  rw [hcolour lo hlo]
  exact blendChannel_half (channel_le p lo) (channel_le bg lo)

end Sys2Proof.Proofs
end

section
/-! SUPPORT. The Compositor (43_compositor.md): the gate and the snapshot (R241, R242), what the byte reads leave in
the scratch buffer (R243), where the cursor lands (R244), and the pixels a render presents (R246). -/

namespace Sys2Proof.Proofs

open Sys2Proof.Machine Sys2Proof.Claims

/-! ## The gate (43_compositor.md R241) -/

theorem gate_disabled {s : State} (hdirty : s.dirty = true) (hdisabled : s.fbEnable = 0) :
    s.gate = some .disabled := by
  rw [State.gate, if_neg (ne_false_of_eq_true hdirty), if_pos hdisabled]

theorem gate_unsupported {s : State} (hdirty : s.dirty = true) (henabled : s.fbEnable ≠ 0) (hbpp : s.fbBpp ≠ 32) :
    s.gate = some .unsupported := by
  rw [State.gate, if_neg (ne_false_of_eq_true hdirty), if_neg henabled, if_pos hbpp]

/-- Past the first three checks the gate asks for the geometry alone. -/
theorem gate_geometry {s : State} (hdirty : s.dirty = true) (henabled : s.fbEnable ≠ 0) (hbpp : s.fbBpp = 32) :
    s.gate =
      if s.fbWidth = 0 ∨ s.fbHeight = 0 ∨ s.fbPitch.toNat < 4 * s.fbWidth.toNat ∨
        s.fbAddr.toNat + s.fbPitch.toNat * s.fbHeight.toNat > s.params.vramSize then some .malformed
      else none := by
  rw [State.gate, if_neg (ne_false_of_eq_true hdirty), if_neg henabled, if_neg (not_not.mpr hbpp), ← ite_or]
  exact if_congr or_assoc rfl rfl

theorem gate_open {s : State} (h : GateOpen s) : s.gate = none := by
  obtain ⟨hdirty, henabled, hbpp, hw, hh, hpitch, hregion⟩ := h
  rw [gate_geometry hdirty henabled hbpp, if_neg]
  simp only [not_or, not_lt]
  exact ⟨hw, hh, hpitch, hregion⟩

theorem exec_render_whole {s : State} (h : GateOpen s) (hsched : s.sched = []) :
    exec .render s = .next (s.finishRender s.beginRender) :=
  execRender_whole (gate_open h) hsched

theorem exec_render_begin {s : State} (h : GateOpen s) (hsched : s.sched ≠ []) :
    exec .render s = .next { s with render := some s.beginRender } :=
  execRender_begin (gate_open h) hsched

theorem rendered_ne_noOp (out : List Response) (reason : NoOpReason) :
    out ++ [.status .rendered] ≠ out ++ [.status (.noOp reason)] := by
  simp

/-- Settles O37: each clause is one of the gate's checks, and with the gate open what is returned is no NoOp. -/
theorem renderThatCannotRun : Obligations.RenderThatCannotRun := by
  refine fun s => ⟨fun hclean => ?_, fun hdirty hdisabled => ?_, fun hdirty henabled hbpp => ?_,
    fun hdirty henabled hbpp hbad => ?_, fun hopen => ?_⟩
  · exact execRender_noOp (if_pos hclean)
  · exact execRender_noOp (gate_disabled hdirty hdisabled)
  · exact execRender_noOp (gate_unsupported hdirty henabled hbpp)
  · exact execRender_noOp ((gate_geometry hdirty henabled hbpp).trans (if_pos hbad))
  · by_cases hsched : s.sched = []
    · exact ⟨_, exec_render_whole hopen hsched, rendered_ne_noOp s.out⟩
    · exact ⟨_, exec_render_begin hopen hsched, fun _ => List.self_eq_append_right.not.mpr nofun⟩

/-! ## The snapshot (43_compositor.md R242) -/

theorem sint32_eq_toInt (v : Word) : sint32 v = v.toInt := by
  rw [sint32, BitVec.toInt_eq_toNat_cond]
  split_ifs <;> omega

/-- Settles O39: a render with choices for its inside stops after its first step, which takes the snapshot. -/
theorem renderTakesItsSnapshot : Obligations.RenderTakesItsSnapshot := fun s hopen hsched =>
  ⟨s.beginRender, exec_render_begin hopen hsched, rfl, rfl, rfl, rfl, rfl, sint32_eq_toInt _, sint32_eq_toInt _,
    sint32_eq_toInt _, sint32_eq_toInt _, rfl, Array.size_replicate, List.nodup_range, fun _ => List.mem_range⟩

/-! ## Positions in a buffer of rows -/

theorem rowIndex_lt {w h x y : Nat} (hx : x < w) (hy : y < h) : y * w + x < w * h := by
  rw [Nat.mul_comm y, Nat.mul_comm w h]
  exact Nat.mul_add_lt_mul_of_lt_of_lt hy hx

theorem rowIndex_div {w x : Nat} (y : Nat) (hx : x < w) : (y * w + x) / w = y := by
  rw [Nat.mul_comm, Nat.mul_add_div (by omega), Nat.div_eq_of_lt hx, Nat.add_zero]

theorem rowIndex_mod {w x : Nat} (y : Nat) (hx : x < w) : (y * w + x) % w = x := by
  rw [Nat.mul_comm, Nat.mul_add_mod, Nat.mod_eq_of_lt hx]

theorem rowIndex_inj {w x x' y y' : Nat} (hx : x < w) (hx' : x' < w) (h : y * w + x = y' * w + x') :
    x = x' ∧ y = y' := by
  have hcolumn : (y * w + x) % w = (y' * w + x') % w := by rw [h]
  have hrow : (y * w + x) / w = (y' * w + x') / w := by rw [h]
  rw [rowIndex_mod y hx, rowIndex_mod y' hx'] at hcolumn
  rw [rowIndex_div y hx, rowIndex_div y' hx'] at hrow
  exact ⟨hcolumn, hrow⟩

/-! ## Byte reads (43_compositor.md R243) -/

theorem byteAddr_eq (job : RenderJob) {x k : Nat} (y : Nat) (hx : x < job.w.toNat) (hk : k < 4) :
    job.byteAddr (4 * (y * job.w.toNat + x) + k) = job.addr.toNat + y * job.pitch.toNat + 4 * x + k := by
  have hpixel : (4 * (y * job.w.toNat + x) + k) / 4 = y * job.w.toNat + x := by omega
  have hbyte : (4 * (y * job.w.toNat + x) + k) % 4 = k := by omega
  rw [RenderJob.byteAddr, hpixel, hbyte, rowIndex_div y hx, rowIndex_mod y hx]

/-- A byte of the scratch buffer after reads: the byte of VRAM if it was still to be read, and as before if not. -/
theorem foldl_fill_getD (job : RenderJob) (vram : Memory) (todo : List Nat) {scratch : Array Byte} {j : Nat}
    (hj : j < scratch.size) :
    (todo.foldl (job.fill vram) scratch).getD j 0 =
      if j ∈ todo then Memory.byte vram (job.byteAddr j) else scratch.getD j 0 := by
  induction todo generalizing scratch with
  | nil => rfl
  | cons i todo ih =>
    rw [List.foldl_cons, ih (by simpa using hj)]
    by_cases hmem : j ∈ todo
    · simp [hmem]
    · by_cases hij : j = i
      · subst hij
        simp [RenderJob.fill, hmem, hj]
      · simp [RenderJob.fill, hmem, hij, Ne.symm hij]

theorem readRest_getD {s : State} {job : RenderJob} (hsize : job.scratch.size = 4 * (job.w.toNat * job.h.toNat))
    {x y k : Nat} (hx : x < job.w.toNat) (hy : y < job.h.toNat) (hk : k < 4) :
    (job.readRest s.vram).getD (4 * (y * job.w.toNat + x) + k) 0 = lastByte s job x y k := by
  have hpixel := rowIndex_lt hx hy
  rw [RenderJob.readRest, foldl_fill_getD job s.vram job.todo (by omega), byteAddr_eq job y hx hk]
  rfl

/-- The pixels of the scratch buffer once all bytes are read. -/
theorem scratchPixels_getElem? {s : State} {job : RenderJob}
    (hsize : job.scratch.size = 4 * (job.w.toNat * job.h.toNat)) {x y : Nat} (hx : x < job.w.toNat)
    (hy : y < job.h.toNat) :
    (scratchPixels job.w job.h (job.readRest s.vram))[y * job.w.toNat + x]? = some (lastPixel s job x y) := by
  have hbyte {k : Nat} := readRest_getD (s := s) (k := k) hsize hx hy
  rw [lastPixel, ← hbyte (by decide), ← hbyte (by decide), ← hbyte (by decide), ← hbyte (by decide)]
  simp [scratchPixels, scratchWord, rowIndex_lt hx hy]

/-! ## Where the cursor lands (43_compositor.md R244) -/

/-- Cursor pixel `k` lands at (x, y). -/
def Lands (cur : CursorShot) (k x y : Nat) : Prop :=
  cur.x - cur.hx + (k % 64 : Nat) = x ∧ cur.y - cur.hy + (k / 64 : Nat) = y

theorem Lands.unique {cur : CursorShot} {k k' x y : Nat} (h : Lands cur k x y) (h' : Lands cur k' x y) : k = k' := by
  obtain ⟨hx, hy⟩ := h
  obtain ⟨hx', hy'⟩ := h'
  omega

section

variable {w h : Word} {cur : CursorShot} {x y : Nat} (hx : x < w.toNat) (hy : y < h.toNat)
include hx

theorem overlayPixel_getElem?_other {k : Nat} (hmiss : ¬ Lands cur k x y) (p : Word) (px : Array Word) :
    (overlayPixel w h cur k p px)[y * w.toNat + x]? = px[y * w.toNat + x]? := by
  simp only [overlayPixel]
  split_ifs with hout
  · rfl
  · refine Array.getElem?_setIfInBounds_ne fun hsame => hmiss ?_
    obtain ⟨hsx, hsy⟩ := rowIndex_inj (by omega) hx hsame
    exact ⟨by omega, by omega⟩

theorem overlayFrom_getElem?_other {k : Nat} {ps : List Word}
    (hmiss : ∀ j, k ≤ j → j < k + ps.length → ¬ Lands cur j x y) (px : Array Word) :
    (overlayFrom w h cur k ps px)[y * w.toNat + x]? = px[y * w.toNat + x]? := by
  induction ps generalizing k px with
  | nil => rfl
  | cons p ps ih =>
    simp only [List.length_cons] at hmiss
    rw [overlayFrom, ih fun j hj hj' => hmiss j (by omega) (by omega)]
    exact overlayPixel_getElem?_other hx (hmiss k (by omega) (by omega)) p px

include hy

theorem overlayPixel_getElem?_lands {k : Nat} (hk : Lands cur k x y) (p : Word) {px : Array Word} {bg : Word}
    (hbg : px[y * w.toNat + x]? = some bg) :
    (overlayPixel w h cur k p px)[y * w.toNat + x]? = some (composed p bg) := by
  obtain ⟨hsx, hsy⟩ := hk
  obtain ⟨hlt, hval⟩ := Array.getElem?_eq_some_iff.mp hbg
  simp only [overlayPixel, hsx, hsy]
  rw [if_neg (by omega), Int.toNat_natCast, Int.toNat_natCast, Array.getElem?_setIfInBounds_self_of_lt hlt,
    composePixel_eq_composed, Array.getD_eq_getD_getElem?, hbg, Option.getD_some]

theorem overlayFrom_getElem?_lands {k j : Nat} {ps : List Word} {p : Word} (hp : ps[j]? = some p)
    (hj : Lands cur (k + j) x y) {px : Array Word} {bg : Word} (hbg : px[y * w.toNat + x]? = some bg) :
    (overlayFrom w h cur k ps px)[y * w.toNat + x]? = some (composed p bg) := by
  induction ps generalizing k j px with
  | nil => simp at hp
  | cons q ps ih =>
    rw [overlayFrom]
    cases j with
    | zero =>
      obtain rfl : q = p := by simpa using hp
      rw [overlayFrom_getElem?_other hx fun i hi _ hlands => by have := hj.unique hlands; omega]
      exact overlayPixel_getElem?_lands hx hy hj q hbg
    | succ j =>
      refine ih (by simpa using hp) (by rwa [Nat.add_assoc, Nat.add_comm 1]) ?_
      rwa [overlayPixel_getElem?_other hx fun hlands => by have := hj.unique hlands; omega]

/-- Over the background the cursor draws the cursor pixel that lands there, if there is one. -/
theorem overlayCursor_getElem? {px : Array Word} {bg : Word} (hbg : px[y * w.toNat + x]? = some bg) :
    (overlayCursor w h cur px)[y * w.toNat + x]? = some (underCursor cur x y bg) := by
  simp only [overlayCursor, underCursor]
  by_cases henable : cur.enable ≠ 0
  · rw [if_pos henable]
    split_ifs with hin
    · obtain ⟨-, hx0, hx64, hy0, hy64⟩ := hin
      refine overlayFrom_getElem?_lands (j := (y - (cur.y - cur.hy)).toNat * 64 + (x - (cur.x - cur.hx)).toNat)
        hx hy ?_ ⟨by omega, by omega⟩ hbg
      rw [Array.getD_eq_getD_getElem?]
      have hlt : (y - (cur.y - cur.hy)).toNat * 64 + (x - (cur.x - cur.hx)).toNat < 4096 := by omega
      simp [hlt]
    · rw [overlayFrom_getElem?_other hx, hbg]
      rintro j - hj ⟨hjx, hjy⟩
      simp only [Vector.length_toList] at hj
      exact hin ⟨henable, by omega, by omega, by omega, by omega⟩
  · rw [if_neg henable, if_neg fun h => henable h.1, hbg]

end

/-! ## Present (43_compositor.md R246) -/

/-- The pixels a render presents when the bytes it has not read yet are read at once. -/
def lastPixels (s : State) (job : RenderJob) : Array Word :=
  overlayCursor job.w job.h job.cursor (scratchPixels job.w job.h (job.readRest s.vram))

theorem finishRender_shows (s : State) (job : RenderJob) :
    s.finishRender job =
      { s with
        surface := { w := job.w, h := job.h, px := .shown (lastPixels s job) }, dirty := false, render := none
        out := s.out ++ [.status .rendered] } := rfl

theorem lastPixels_size (s : State) (job : RenderJob) : (lastPixels s job).size = job.w.toNat * job.h.toNat := by
  simp [lastPixels]

theorem lastPixels_getElem? {s : State} {job : RenderJob}
    (hsize : job.scratch.size = 4 * (job.w.toNat * job.h.toNat)) {x y : Nat} (hx : x < job.w.toNat)
    (hy : y < job.h.toNat) :
    (lastPixels s job)[y * job.w.toNat + x]? = some (underCursor job.cursor x y (lastPixel s job x y)) :=
  overlayCursor_getElem? hx hy (scratchPixels_getElem? hsize hx hy)

theorem readLE_four (m : Memory) (a : Nat) :
    BitVec.ofNat 32 (Memory.readLE m a 4) =
      wordOfBytes (Memory.byte m (a + 3)) (Memory.byte m (a + 2)) (Memory.byte m (a + 1)) (Memory.byte m a) := by
  refine wordOfBytes_eq_of_toNat ?_
  simp only [Memory.readLE, Nat.add_assoc, Nat.reduceAdd]
  omega

/-- A render that reads all its bytes at once reads the background. -/
theorem lastPixel_beginRender {s : State} {x y : Nat} (hx : x < s.fbWidth.toNat) (hy : y < s.fbHeight.toNat) :
    lastPixel s s.beginRender x y = backgroundPixel s x y := by
  have hpixel := rowIndex_lt hx hy
  have hbyte {k : Nat} (hk : k < 4) : lastByte s s.beginRender x y k =
      Memory.byte s.vram (s.fbAddr.toNat + y * s.fbPitch.toNat + 4 * x + k) := by
    have hj : 4 * (y * s.fbWidth.toNat + x) + k < scratchBytes s.fbWidth s.fbHeight := by
      unfold scratchBytes
      omega
    exact if_pos (List.mem_range.mpr hj)
  rw [lastPixel, hbyte (by decide), hbyte (by decide), hbyte (by decide), hbyte (by decide)]
  exact (readLE_four s.vram _).symm

theorem cursorShot_eq (s : State) :
    s.cursorShot =
      { enable := s.cursorEnable, x := s.cursorX.toInt, y := s.cursorY.toInt, hx := s.hotspotX.toInt
        hy := s.hotspotY.toInt, bitmap := s.bitmap } := by
  simp only [State.cursorShot, sint32_eq_toInt]

/-- Settles O38: the render in one step presents its last pixels, and has all its bytes still to be read. -/
theorem renderPresentsTheComposite : Obligations.RenderPresentsTheComposite := by
  refine fun s hopen hsched => ⟨lastPixels s s.beginRender, exec_render_whole hopen hsched, lastPixels_size _ _,
    fun x y hx hy => ?_⟩
  rw [screenPixel, ← cursorShot_eq, ← lastPixel_beginRender hx hy]
  exact lastPixels_getElem? Array.size_replicate hx hy

end Sys2Proof.Proofs
end

section
/-! SUPPORT. Steps inside a render (43_compositor.md R247): which step comes next, what one byte read does, a render
taken byte by byte, and a run that tears (70_reset_and_hazards.md R351, R352). -/

namespace Sys2Proof.Proofs

open Sys2Proof.Machine Sys2Proof.Claims Sys2Proof.Safety

/-! ## Which step comes next -/

theorem offeredVram_eq_some {s : State} {i : Instr} {rest : List Word} (h : s.offeredVram = some (i, rest)) :
    decode s.input = .ok i rest ∧ i.port = .vram := by
  unfold State.offeredVram at h
  split at h
  · next j r hdec =>
    obtain ⟨hport, hij⟩ := Option.ite_none_right_eq_some.mp h
    obtain ⟨rfl, rfl⟩ := Prod.mk.inj (Option.some.inj hij)
    exact ⟨hdec, hport⟩
  · cases h

/-- With no choice left a render runs to its end. -/
theorem step_outOfChoices {s : State} {job : RenderJob} (hren : s.render = some job) (hsched : s.sched = []) :
    step s = .next (s.finishRender job) := by
  rw [step_insideRender hren, insideRenderStep, hsched]

theorem step_compositorChoice {s : State} {job : RenderJob} {pick : Nat} {cs : List Choice} (hren : s.render = some job)
    (hsched : s.sched = .compositor pick :: cs) :
    step s = .next (State.renderAdvance { s with sched := cs } job pick) := by
  rw [step_insideRender hren, insideRenderStep, hsched]

/-- A choice is a step of the render if it says so, or if no VRAM-port transaction is offered for it (log entry 3). -/
theorem step_renderChoice {s : State} {job : RenderJob} {c : Choice} {cs : List Choice} (hren : s.render = some job)
    (hsched : s.sched = c :: cs) (hc : isCompositor c = true ∨ s.offeredVram = none) :
    ∃ pick, step s = .next (State.renderAdvance { s with sched := cs } job pick) := by
  cases c with
  | compositor pick => exact ⟨pick, step_compositorChoice hren hsched⟩
  | vram =>
    have hnone : s.offeredVram = none := hc.resolve_left nofun
    exact ⟨0, by rw [step_insideRender hren, insideRenderStep, hsched, hnone]⟩

theorem step_vramChoice {s : State} {job : RenderJob} {cs : List Choice} {i : Instr} {rest : List Word}
    (hren : s.render = some job) (hsched : s.sched = .vram :: cs) (hoffered : s.offeredVram = some (i, rest)) :
    step s = exec i { s with sched := cs, input := rest } := by
  rw [step_insideRender hren, insideRenderStep, hsched]
  simp only [hoffered]

/-! ## What a step can change -/

/-- `t` is `s` but for what a render and the VRAM port own, and for what has been consumed and returned. -/
def OnlyRenderOrVram (s t : State) : Prop :=
  t = { s with
    vram := t.vram, dirty := t.dirty, surface := t.surface, render := t.render, input := t.input
    sched := t.sched, out := t.out }

theorem renderAdvance_frame (s : State) (job : RenderJob) (pick : Nat) :
    OnlyRenderOrVram s (s.renderAdvance job pick) ∧ (s.renderAdvance job pick).input = s.input ∧
      (s.renderAdvance job pick).vram = s.vram := by
  by_cases h : job.todo = []
  · rw [renderAdvance_nil h]
    exact ⟨rfl, rfl, rfl⟩
  · rw [renderAdvance_cons h]
    exact ⟨rfl, rfl, rfl⟩

/-- A VRAM-port transaction changes VRAM and dirty, and answers. -/
theorem exec_vram_frame {i : Instr} (hport : i.port = .vram) (s : State) :
    ∃ t, exec i s = .next t ∧ OnlyRenderOrVram s t ∧ t.input = s.input := by
  cases i with
  | vrd => exact ⟨_, rfl, rfl, rfl⟩
  | vwr sz addr d =>
    refine ⟨_, rfl, ?_⟩
    split
    · exact ⟨rfl, rfl⟩
    · exact ⟨rfl, rfl⟩
  | _ => cases hport

/-- Settles O8: a step inside a render is the render's own, which takes no words and writes no VRAM, or the offered
VRAM-port transaction that was chosen. -/
theorem insideARenderOnlyVramTransactionsRun : Obligations.InsideARenderOnlyVramTransactionsRun := by
  intro s job hren
  rcases hsched : s.sched with _ | ⟨c, cs⟩
  · exact ⟨_, step_outOfChoices hren hsched, rfl, fun h => h.elim (absurd rfl) (absurd rfl)⟩
  · by_cases hc : isCompositor c = true ∨ s.offeredVram = none
    · obtain ⟨pick, hstep⟩ := step_renderChoice hren hsched hc
      obtain ⟨hframe, hinput, hvram⟩ := renderAdvance_frame { s with sched := cs } job pick
      exact ⟨_, hstep, hframe, fun h => h.elim (absurd hinput) (absurd hvram)⟩
    · obtain ⟨hchoice, hoffer⟩ := not_or.mp hc
      obtain ⟨⟨i, rest⟩, hoffered⟩ := Option.ne_none_iff_exists'.mp hoffer
      obtain rfl : c = .vram := by
        cases c with
        | vram => rfl
        | compositor => exact absurd rfl hchoice
      obtain ⟨hdec, hport⟩ := offeredVram_eq_some hoffered
      obtain ⟨t, hexec, hframe, hinput⟩ := exec_vram_frame hport { s with sched := cs, input := rest }
      obtain rfl : t.input = rest := hinput
      exact ⟨t, (step_vramChoice hren hsched hoffered).trans hexec, hframe, fun _ => ⟨i, cs, hport, rfl, hdec, hexec⟩⟩

/-! ## One byte read (43_compositor.md R243) -/

/-- A byte read takes the picked byte out of those still to be read and fills it. -/
theorem readByte_picked (job : RenderJob) (vram : Memory) (pick : Nat) (h : job.todo ≠ []) :
    ∃ l j r, job.todo = l ++ j :: r ∧ l.length = pick % job.todo.length ∧
      job.readByte vram pick = { job with todo := l ++ r, scratch := job.fill vram job.scratch j } := by
  have hk : pick % job.todo.length < job.todo.length := Nat.mod_lt _ (List.length_pos_iff.mpr h)
  refine ⟨_, _, _, (List.take_append_drop _ job.todo).symm.trans (by rw [← List.getElem_cons_drop hk]),
    List.length_take_of_le hk.le, ?_⟩
  rw [← List.eraseIdx_eq_take_drop_succ]
  simp only [RenderJob.readByte, List.getElem?_eq_getElem hk]

/-- Scratch byte `j` is byte `j % 4` of the pixel in row `j / 4 / w` and column `j / 4 % w`. -/
theorem scratch_position {w h j : Nat} (hj : j < 4 * (w * h)) :
    ∃ x y k, x < w ∧ y < h ∧ k < 4 ∧ j = 4 * (y * w + x) + k := by
  have hpixel : j / 4 < h * w := by
    rw [Nat.mul_comm h]
    omega
  have hw : 0 < w := Nat.pos_of_ne_zero (by rintro rfl; simp at hpixel)
  refine ⟨j / 4 % w, j / 4 / w, j % 4, Nat.mod_lt _ hw, (Nat.div_lt_iff_lt_mul hw).mpr hpixel, by omega, ?_⟩
  rw [Nat.div_add_mod']
  omega

/-- Settles O9: the byte picked is filled from the VRAM of this step. -/
theorem eachByteIsReadAtItsOwnInstant : Obligations.EachByteIsReadAtItsOwnInstant := by
  intro s job pick cs hren htodo hsched hsize hbound
  obtain ⟨l, j, r, hsplit, hl, hread⟩ := readByte_picked job s.vram pick htodo
  have hj : j < 4 * (job.w.toNat * job.h.toNat) := hbound j (by simp [hsplit])
  obtain ⟨x, y, k, hx, hy, hk, rfl⟩ := scratch_position hj
  have hstep : step s = .next { s with sched := cs, render := some (job.readByte s.vram pick) } :=
    (step_compositorChoice hren hsched).trans (congrArg _ (renderAdvance_cons htodo pick))
  refine ⟨_, hstep, x, y, k, hx, hy, hk, ⟨l, r, hsplit, hl, ?_⟩, ?_, ?_, fun i hi => ?_⟩
  · rw [hread]
  · rw [hread]
    exact fill_size ..
  · rw [hread, ← byteAddr_eq job y hx hk]
    exact Array.getElem?_setIfInBounds_self_of_lt (hsize ▸ hj)
  · rw [hread]
    exact Array.getElem?_setIfInBounds_ne hi.symm

/-! ## A render byte by byte (43_compositor.md R247) -/

/-- Two reads of one VRAM can be exchanged, of one byte as well. -/
theorem fill_comm (job : RenderJob) (vram : Memory) (scratch : Array Byte) (i j : Nat) :
    job.fill vram (job.fill vram scratch i) j = job.fill vram (job.fill vram scratch j) i := by
  by_cases hij : i = j
  · rw [hij]
  · exact Array.setIfInBounds_comm _ _ hij

/-- While VRAM stays as it is, a byte read does not change what the render will present. -/
theorem finishRender_readByte (s : State) (job : RenderJob) (pick : Nat) (h : job.todo ≠ []) :
    s.finishRender (job.readByte s.vram pick) = s.finishRender job := by
  obtain ⟨l, j, r, hsplit, -, hread⟩ := readByte_picked job s.vram pick h
  have hperm : (j :: (l ++ r)).Perm job.todo := hsplit ▸ List.perm_middle.symm
  have hrest : (job.readByte s.vram pick).readRest s.vram = job.readRest s.vram := by
    rw [hread]
    exact hperm.foldl_eq' (fun i _ k _ scratch => fill_comm job s.vram scratch i k) job.scratch
  rw [finishRender_eq, hrest, hread]
  rfl

theorem readByte_todo_length (job : RenderJob) (vram : Memory) (pick : Nat) (h : job.todo ≠ []) :
    (job.readByte vram pick).todo.length + 1 = job.todo.length := by
  obtain ⟨l, j, r, hsplit, -, hread⟩ := readByte_picked job vram pick h
  simp only [hread, hsplit, List.length_append, List.length_cons]
  omega

/-- The last step of a render: no byte is left to be read, or no choice is left. -/
theorem step_last {s : State} {job : RenderJob} (hren : s.render = some job)
    (h : s.sched = [] ∨
      (job.todo = [] ∧ ∃ c cs, s.sched = c :: cs ∧ (isCompositor c = true ∨ s.offeredVram = none))) :
    step s = .next (State.finishRender { s with sched := s.sched.tail } job) := by
  rcases h with hsched | ⟨htodo, c, cs, hsched, hc⟩
  · rw [step_outOfChoices hren hsched, hsched, List.tail_nil, ← hsched]
  · obtain ⟨pick, hstep⟩ := step_renderChoice hren hsched hc
    rw [hstep, renderAdvance_nil htodo, hsched, finishRender_eq, RenderJob.readRest, htodo]
    rfl

theorem step_byteRead (s : State) {job : RenderJob} {c : Choice} (htodo : job.todo ≠ []) (hc : isCompositor c = true)
    (cs : List Choice) :
    ∃ pick, step { s with sched := c :: cs, render := some job } =
      .next { s with sched := cs, render := some (job.readByte s.vram pick) } := by
  obtain ⟨pick, hstep⟩ := step_renderChoice (s := { s with sched := c :: cs, render := some job }) rfl rfl (.inl hc)
  exact ⟨pick, hstep.trans (congrArg _ (renderAdvance_cons htodo pick))⟩

/-- With no VRAM transaction chosen, byte reads and then the last step, which comes when no byte or no choice is left,
present what the render run at once presents. -/
theorem run_toLastStep {s : State} {job : RenderJob} {picks rest : List Choice}
    (hpicks : picks.all isCompositor = true) (hlen : picks.length ≤ job.todo.length)
    (hlast : rest = [] ∨ (job.todo.length = picks.length ∧ ∃ c cs, rest = c :: cs ∧ isCompositor c = true)) :
    Sys2Proof.core.run (picks.length + 1) { s with sched := picks ++ rest, render := some job } =
      .next { s.finishRender job with sched := rest.tail } := by
  induction picks generalizing job with
  | nil =>
    rw [List.length_nil, run_succ 0 (step_last rfl ?_)]
    · rfl
    · exact hlast.imp_right fun ⟨htodo, c, cs, hrest, hc⟩ => ⟨List.length_eq_zero_iff.mp htodo, c, cs, hrest, .inl hc⟩
  | cons c picks ih =>
    obtain ⟨hc, hpicks⟩ := Bool.and_eq_true_iff.mp hpicks
    rw [List.length_cons] at hlen hlast
    have htodo : job.todo ≠ [] := List.ne_nil_of_length_pos (by omega)
    obtain ⟨pick, hstep⟩ := step_byteRead s htodo hc (picks ++ rest)
    have hfewer := readByte_todo_length job s.vram pick htodo
    rw [List.length_cons, List.cons_append, run_succ _ hstep, ← finishRender_readByte s job pick htodo]
    exact ih hpicks (by omega) (hlast.imp_right fun ⟨hlength, hrest⟩ => ⟨by omega, hrest⟩)

/-- The gate does not look at the words and the choices offered. -/
theorem gateOpen_consume {s : State} (h : GateOpen s) (input : List Word) (sched : List Choice) :
    GateOpen { s with input := input, sched := sched } :=
  ⟨h.dirty, h.enabled, h.bpp, h.width, h.height, h.pitch, h.region⟩

/-- RENDER offered next, with choices for its inside, takes the first step of its render. -/
theorem step_render_begin {s : State} {ws : List Word} (hopen : GateOpen s) (hren : s.render = none)
    (hin : s.input = 0xC0000000 :: ws) (hsched : s.sched ≠ []) :
    step s = .next { s with input := ws, render := some s.beginRender } := by
  have hdec : decode s.input = .ok .render ws := hin ▸ decodeOfEncodeIsTheOperation .render rfl ws
  rw [step_idle hren, operationStep_ok hdec]
  exact exec_render_begin (gateOpen_consume hopen ws s.sched) hsched

theorem render_inOneStep {s u : State} {ws : List Word} (hopen : GateOpen s)
    (hwhole : exec .render { s with input := ws, sched := [] } = .next u) :
    u = State.finishRender { s with input := ws, sched := [] } s.beginRender :=
  Host.Outcome.next.inj (hwhole.symm.trans (exec_render_whole (gateOpen_consume hopen ws []) rfl))

/-- The first step, byte reads with no VRAM transaction between, and the last step are the render in one step. -/
theorem run_byBytes {s u : State} {picks rest : List Choice} {ws : List Word} (hopen : GateOpen s)
    (hren : s.render = none) (hin : s.input = 0xC0000000 :: ws) (hsched : s.sched = picks ++ rest)
    (hne : s.sched ≠ []) (hpicks : picks.all isCompositor = true)
    (hwhole : exec .render { s with input := ws, sched := [] } = .next u)
    (hlen : picks.length ≤ 4 * (s.fbWidth.toNat * s.fbHeight.toNat))
    (hlast : rest = [] ∨
      (4 * (s.fbWidth.toNat * s.fbHeight.toNat) = picks.length ∧ ∃ c cs, rest = c :: cs ∧ isCompositor c = true)) :
    Sys2Proof.core.run (picks.length + 2) s = .next { u with sched := rest.tail } := by
  have htodo : s.beginRender.todo.length = 4 * (s.fbWidth.toNat * s.fbHeight.toNat) := List.length_range
  obtain rfl := render_inOneStep hopen hwhole
  rw [run_succ _ (step_render_begin hopen hren hin hne), hsched]
  exact run_toLastStep (s := { s with input := ws, sched := [] }) hpicks (htodo ▸ hlen) (htodo ▸ hlast)

/-- Settles O40: by bytes the render ends as in one step, and its last step presents its last pixels. -/
theorem renderByBytesIsTheRenderInOneStep : Obligations.RenderByBytesIsTheRenderInOneStep := by
  refine ⟨fun s u picks rest ws hopen hren hin hsched hpicks hwhole => ⟨fun hlen => ?_, fun hne hlen hrest => ?_⟩,
    fun s job hren hsize _ hlast => ?_⟩
  · obtain ⟨reads, c, rfl⟩ := (List.eq_nil_or_concat' picks).resolve_left (by rintro rfl; simp at hlen)
    rw [List.all_append, Bool.and_eq_true_iff] at hpicks
    obtain ⟨hreads, hc⟩ := hpicks
    rw [List.length_append, List.length_singleton] at hlen ⊢
    rw [List.append_assoc] at hsched
    refine run_byBytes hopen hren hin hsched ?_ hreads hwhole (by omega) (.inr ⟨by omega, c, rest, rfl, ?_⟩)
    · simp [hsched]
    · simpa using hc
  · subst hrest
    rw [run_byBytes hopen hren hin hsched (by simpa [hsched] using hne) hpicks hwhole hlen (.inl rfl)]
    obtain rfl := render_inOneStep hopen hwhole
    rfl
  · exact ⟨lastPixels s job, step_last hren hlast, lastPixels_size s job, fun x y hx hy =>
      lastPixels_getElem? hsize hx hy⟩

/-! ## Tearing (70_reset_and_hazards.md R351, R352) -/

/-- A display of one black pixel. RENDER and a write of the whole pixel are offered, and the write is chosen after two
of the four byte reads. -/
def tearing : State :=
  { State.reset with
    fbWidth := 1, fbHeight := 1, fbPitch := 4, fbEnable := 1, dirty := true
    vram := [(0, 0), (1, 0), (2, 0), (3, 0)]
    input := encodeProgram [.render, .vwr .s4 0 0x11223344]
    sched := [.compositor 0, .compositor 0, .vram, .compositor 0, .compositor 0] }

theorem inv_tearing : Inv tearing :=
  ⟨resetMeetsInvariant.params, resetMeetsInvariant.flip, resetMeetsInvariant.control, ⟨by decide, by decide⟩, trivial,
    trivial⟩

theorem gateOpen_tearing : GateOpen tearing :=
  ⟨rfl, by decide, rfl, by decide, by decide, by decide, by decide⟩

/-- `tearing` after its run: the pixel shown has the low bytes from before the write and the high ones from after. -/
def torn : State :=
  { tearing with
    vram := [(0, 0x44), (1, 0x33), (2, 0x22), (3, 0x11)]
    surface := { w := 1, h := 1, px := .shown #[0x11220000] }, dirty := false
    input := [], sched := [], out := [.done, .status .rendered] }

theorem run_tearing : Sys2Proof.core.run 7 tearing = .next torn := rfl

/-- Settles O43: the run of `tearing` ends in `torn`. -/
theorem tearingAndLostDirtyArePossible : Obligations.TearingAndLostDirtyArePossible :=
  ⟨tearing, torn, 7, .s4, 0, 0x11223344, inv_tearing, gateOpen_tearing, rfl, rfl, rfl, run_tearing, rfl, rfl, rfl, rfl,
    by decide, by decide, by decide, by decide⟩

end Sys2Proof.Proofs
end

section
/-! SUPPORT. The GuestInterface (44_guest_interface.md): headers of its operations, accesses past the end of VRAM, the
bytes of a read and of a write, and the routing of guest addresses (R270). -/

namespace Sys2Proof.Proofs

open Sys2Proof.Machine Sys2Proof.Safety

/-! ## Headers (30_encoding.md R81, R83) -/

/-- The header `0x20000000 | (SZ << 27) | off` and the two words of DATA spell the register write at `off`. -/
theorem decode_regWrite {sz : AccessSize} {n off : Nat} (hsz : sizeBytes sz = 2 ^ n) (hoff : off < 4096) (d : Data)
    (ws : List Word) :
    decode (BitVec.ofNat 32 (0x20000000 + n * 2 ^ 27 + off) :: (dataWords d ++ ws)) =
      .ok (regWrite (BitVec.ofNat 12 off) sz d) ws := by
  obtain rfl := eq_szOfSize hsz
  simpa [encodeWrite, mkHeader] using decode_encodeWrite hoff sz d ws

/-- The header `0x40000000 | (SZ << 27)` and an address spell the read. -/
theorem decode_vrd {sz : AccessSize} {n : Nat} (hsz : sizeBytes sz = 2 ^ n) (addr : Word) (ws : List Word) :
    decode (BitVec.ofNat 32 (0x40000000 + n * 2 ^ 27) :: addr :: ws) = .ok (.vrd sz addr) ws := by
  obtain rfl := eq_szOfSize hsz
  simpa [encode, mkHeader] using decode_encode_vrd sz addr ws

/-- The header `0x60000000 | (SZ << 27)`, an address and the two words of DATA spell the write. -/
theorem decode_vwr {sz : AccessSize} {n : Nat} (hsz : sizeBytes sz = 2 ^ n) (addr : Word) (d : Data) (ws : List Word) :
    decode (BitVec.ofNat 32 (0x60000000 + n * 2 ^ 27) :: addr :: (dataWords d ++ ws)) = .ok (.vwr sz addr d) ws := by
  obtain rfl := eq_szOfSize hsz
  simpa [encode, mkHeader] using decode_encode_vwr sz addr d ws

/-! ## Accesses past the end of VRAM (44_guest_interface.md R274) -/

theorem exec_vrd_past {s : State} {sz : AccessSize} {addr : Word} (h : addr.toNat + sizeBytes sz > s.params.vramSize) :
    exec (.vrd sz addr) s = .next (s.respond (.data 0)) :=
  congrArg (fun v => Host.Outcome.next (s.respond (.data (BitVec.ofNat 64 v))))
    (if_neg fun hin => h.not_ge (of_decide_eq_true hin))

theorem exec_vwr_past {s : State} {sz : AccessSize} {addr : Word} (d : Data)
    (h : addr.toNat + sizeBytes sz > s.params.vramSize) : exec (.vwr sz addr d) s = .next (s.respond .done) :=
  congrArg completeWrite (if_neg fun hin => h.not_ge (of_decide_eq_true hin))

/-! ## The bytes of an access (44_guest_interface.md R272, R273) -/

/-- The base-256 digits of a read are the bytes it covers, the lowest address least significant. -/
theorem readLE_digit (m : Memory) (a : Nat) {n i : Nat} (h : i < n) :
    Memory.readLE m a n / 256 ^ i % 256 = (Memory.byte m (a + i)).toNat := by
  induction n generalizing a i with
  | zero => exact absurd h (Nat.not_lt_zero i)
  | succ n ih =>
    have hbyte := (Memory.byte m a).isLt
    rw [Memory.readLE]
    cases i with
    | zero => simp [Nat.mod_eq_of_lt hbyte]
    | succ i =>
      have hrest : ((Memory.byte m a).toNat + 256 * Memory.readLE m (a + 1) n) / 256 = Memory.readLE m (a + 1) n := by
        omega
      rw [Nat.pow_succ', ← Nat.div_div_eq_div_mul, hrest, ih (a + 1) (Nat.lt_of_succ_lt_succ h), Nat.add_right_comm,
        Nat.add_assoc]

/-- The bytes a write stores are those of DATA, since the value stored keeps all of them below the size. -/
theorem byte_vramWritten (m : Memory) (a : Nat) (sz : AccessSize) (d : Data) {i : Nat} (h : i < sizeBytes sz) :
    Memory.byte (Memory.writeLE m a (sizeBytes sz) (vramWriteValue d sz)) (a + i) = d.extractLsb' (8 * i) 8 := by
  have hdigit : d.toNat % 256 ^ sizeBytes sz / 256 ^ i % 256 = d.toNat / 256 ^ i % 256 := by
    simpa using mod_pow_div_pow_mod_pow d.toNat 256 (n := 1) h
  apply BitVec.eq_of_toNat_eq
  rw [Memory.byte_writeLE_inside _ _ _ _ h, vramWriteValue_eq, BitVec.toNat_ofNat, BitVec.extractLsb'_toNat,
    Nat.shiftRight_eq_div_pow, Nat.pow_mul]
  exact hdigit

/-- Settles O34: past the end 0 is returned; inside, the digits of the value read are the bytes. -/
theorem vramRead : Obligations.VramRead := by
  intro sz n addr s ws hsz
  refine ⟨decode_vrd hsz addr ws, ?_⟩
  by_cases hin : addr.toNat + sizeBytes sz ≤ s.params.vramSize
  · obtain ⟨v, hexec, hval⟩ := exec_vrd_inside hin
    refine ⟨v, hexec, fun hpast => absurd hin hpast.not_ge, fun _ => ?_⟩
    rw [hval]
    exact ⟨Memory.readLE_lt _ _ _, fun _ hi => readLE_digit _ _ hi⟩
  · exact ⟨0, exec_vrd_past (not_le.mp hin), fun _ => rfl, fun h => absurd h hin⟩

/-- Settles O35: past the end nothing is stored; inside, the bytes covered are DATA's and the others are kept. -/
theorem vramWrite : Obligations.VramWrite := fun sz _ addr d s hsz =>
  ⟨⟨dataWords d, decode_vwr hsz addr d⟩, exec_vwr_past d, fun hin =>
    ⟨Memory.writeLE s.vram addr.toNat (sizeBytes sz) (vramWriteValue d sz), exec_vwr_inside d hin,
      fun _ hi => byte_vramWritten _ _ sz d hi, fun _ hout => Memory.byte_writeLE_outside _ _ _ _ hout⟩⟩

/-! ## Routing (44_guest_interface.md R270, 20_memory.md R61) -/

section
variable {p : Params} {address : Nat}

theorem route_register (hlo : p.regBase ≤ address) (hhi : address < p.regBase + 4096) :
    route p address = some (.register (BitVec.ofNat 12 (address - p.regBase))) :=
  if_pos ⟨hlo, hhi⟩

theorem route_vram (hreg : address < p.regBase ∨ p.regBase + 4096 ≤ address) (hlo : p.vramBase ≤ address)
    (hhi : address < p.vramBase + p.vramSize) :
    route p address = some (.vram (BitVec.ofNat 32 (address - p.vramBase))) :=
  (if_neg fun ⟨h, h'⟩ => hreg.elim h.not_gt h'.not_ge).trans (if_pos ⟨hlo, hhi⟩)

theorem route_none (hreg : address < p.regBase ∨ p.regBase + 4096 ≤ address)
    (hvram : address < p.vramBase ∨ p.vramBase + p.vramSize ≤ address) : route p address = none :=
  (if_neg fun ⟨h, h'⟩ => hreg.elim h.not_gt h'.not_ge).trans
    (if_neg fun ⟨h, h'⟩ => hvram.elim h.not_gt h'.not_ge)

theorem mmio_register {off : Off} (h : route p address = some (.register off)) (sz : AccessSize) (d : Data) :
    mmioRead p address sz = some (regRead off sz) ∧ mmioWrite p address sz d = some (regWrite off sz d) := by
  simp [mmioRead, mmioWrite, h]

theorem mmio_vram {a : Word} (h : route p address = some (.vram a)) (sz : AccessSize) (d : Data) :
    mmioRead p address sz = some (.vrd sz a) ∧ mmioWrite p address sz d = some (.vwr sz a d) := by
  simp [mmioRead, mmioWrite, h]

theorem mmio_none (h : route p address = none) (sz : AccessSize) (d : Data) :
    mmioRead p address sz = none ∧ mmioWrite p address sz d = none := by
  simp [mmioRead, mmioWrite, h]

/-- The VRAM window starts at a page, so the offset in it keeps the offset in the page (00_scope.md R7). -/
theorem vramOffset_mod_page (h : ParamsLegal p) (hlo : p.vramBase ≤ address) :
    (address - p.vramBase) % p.pageSize = address % p.pageSize := by
  obtain ⟨-, -, -, haligned⟩ := h
  obtain ⟨page, hpage⟩ := Nat.dvd_of_mod_eq_zero haligned
  rw [hpage] at hlo ⊢
  exact Nat.sub_mul_mod hlo

end

/-- Settles O60: the three regions of `route`, in their order. -/
theorem guestAddressesAreRouted : Obligations.GuestAddressesAreRouted := by
  intro p address sz n d hsz hsize
  refine ⟨fun hlo hhi => ?_, fun hreg hlo hhi => ?_, fun hreg hvram => mmio_none (route_none hreg hvram) sz d⟩
  · have hoff : address - p.regBase < 4096 := by omega
    obtain ⟨hread, hwrite⟩ := mmio_register (route_register hlo hhi) sz d
    exact ⟨⟨_, hread, decode_regRead hsz hoff []⟩, _, hwrite, decode_regWrite hsz hoff d []⟩
  · have hoff : (BitVec.ofNat 32 (address - p.vramBase)).toNat = address - p.vramBase := by
      rw [BitVec.toNat_ofNat, Nat.mod_eq_of_lt (by omega)]
    obtain ⟨hread, hwrite⟩ := mmio_vram (route_vram hreg hlo hhi) sz d
    refine ⟨_, hoff, hread, hwrite, fun hlegal => ?_⟩
    rw [hoff, vramOffset_mod_page hlegal hlo]

end Sys2Proof.Proofs
end

section
/-! Exceptions (60_exceptions.md): the numbers of the result codes (R303), and every operation completes (R300, R305). -/

namespace Sys2Proof.Proofs

open Sys2Proof.Machine Sys2Proof.Claims

theorem mem_codeNumbers (code : ResultCode) : (code, resultCodeNumber code) ∈ codeNumbers := by
  cases code <;> decide

theorem resultCodeNumber_of_mem_codeNumbers : ∀ row ∈ codeNumbers, resultCodeNumber row.1 = row.2 := by decide

/-- Settles O52: the table has a row for every code, and each of its rows holds the code's number. -/
theorem resultCodeNumbers : Obligations.ResultCodeNumbers := by
  refine fun code n => ⟨?_, resultCodeNumber_of_mem_codeNumbers (code, n)⟩
  rintro rfl
  exact mem_codeNumbers code

/-- An operation that answers goes to a next state with one response more. -/
theorem Answers.next_out {s : State} {o : StepOutcome} (h : Answers s o) :
    ∃ t r, o = .next t ∧ t.out = s.out ++ [r] := by
  obtain ⟨u, r, ho, heff, -⟩ := h
  exact ⟨_, r, ho, by rw [State.respond_out, heff.out]⟩

/-- Settles O54: an operation answers with its one response, or is a render whose first step leaves the answers given
so far. -/
theorem everyOperationCompletes : Obligations.EveryOperationCompletes := by
  intro i s
  rcases exec_cases i s with hanswers | ⟨hi, -, -, hexec⟩
  · obtain ⟨t, r, hexec, hout⟩ := hanswers.next_out
    exact ⟨t, hexec, .inl ⟨r, hout⟩⟩
  · exact ⟨_, hexec, .inr ⟨hi, rfl, rfl⟩⟩

end Sys2Proof.Proofs
end
